-- ==== Sys2Proof/Word.lean ====
section
/-! DEFINITION. The word types of the block's encoded formats (spec/30_encoding.md R100). Every value
is unsigned, at the width the spec states (R11). -/

namespace Sys2Proof

/-- An 8-bit field: a frame byte, a capture entry, an action argument, a threshold. -/
abbrev Byte := BitVec 8

/-- A `KEYCODE`, 5 bits `v[4] row[3:2] col[1:0]` (R102). -/
abbrev KeyWord := BitVec 5

/-- An `ACTION` word, 10 bits `op[9:8] arg[7:0]` (R106). -/
abbrev ActionWord := BitVec 10

/-- A time of the timebase `NOW`, 64 bits (spec/10_state.md R31). -/
abbrev Time := BitVec 64

/-- A native duty code, 16 bits (R114). -/
abbrev Duty := BitVec 16

/-- The encoded word of one instruction, in the format that holds it: a keycode stands in `KP.res`,
an action word in the action table `P_ACTION` (R100). -/
inductive Code where
  /-- a `KEYCODE`, as the scanner writes it -/
  | key (k : KeyWord)
  /-- an `ACTION` word, as the action table holds it -/
  | act (w : ActionWord)
  deriving DecidableEq, Repr

end Sys2Proof
end

