-- ==== Sys2Proof/Config.lean ====
section
/-! DEFINITION. What an implementation fixes when it is built (spec/00_scope.md R6), the lists of values the
spec names for it, and the free values. -/

namespace Sys2Proof

/-- The build-time parameters of R6 that a build may set. Durations are in cycles. `P_KEY_ACTIVE` is a
`Bool`, so that its check of R7 holds by its type. -/
structure Params where
  /-- `P_ROWS` -/
  rows : Nat
  /-- `P_COLS` -/
  cols : Nat
  /-- `P_KEY_ACTIVE` (OPEN): the level of a driven row and of a pressed column -/
  keyActive : Bool
  /-- `P_SYMBOL`, the ASCII code of each cell's printed symbol; nothing in the block reads it (R104) -/
  symbol : Vector Byte 16
  /-- `P_ACTION`, the action word of each cell (spec/30_encoding.md R110) -/
  action : Vector ActionWord 16
  /-- `P_DEBOUNCE` -/
  debounce : Nat
  /-- `P_ROW_SETTLE` -/
  rowSettle : Nat
  /-- `P_EXPECTED`, the transitions of a valid capture and the number of entries of `CAP.d` (R45) -/
  expected : Nat
  /-- `P_SPEED_SET`, the legal percents (R32, R108) -/
  speedSet : List Nat
  /-- `P_DUTY_FULL`, the native duty code of 100 percent (R281) -/
  dutyFull : Nat
  /-- `P_MIN_INTERVAL` (OPEN) -/
  minInterval : Nat
  /-- `P_START_HIGH` -/
  startHigh : Nat
  /-- `P_REQ_LOW` -/
  reqLow : Nat
  /-- `P_BIT_BASE` -/
  bitBase : Nat
  /-- `P_BIT_THRESHOLD` -/
  bitThreshold : Nat
  /-- `P_MAX_UNCHANGED` -/
  maxUnchanged : Nat
  /-- `P_COOLDOWN` -/
  cooldown : Nat
  /-- `P_DWELL_NATURAL` -/
  dwellNatural : Nat
  /-- `P_DWELL_SLEEP` -/
  dwellSleep : Nat
  /-- `P_THR_RESET` -/
  thrReset : Nat
  deriving DecidableEq, Repr

/-- The default `P_SPEED_SET` (R6), the speed set of the words that spec/opcode_table.json lists. -/
def Config.speedSet : List Nat := [0, 30, 60, 80, 100]

/-- The 16 symbols a symbol table names (spec/30_encoding.md R105): `0`-`9`, `A`-`D`, `*`, `#`. -/
def Config.alphabet : List Byte :=
  [0x30, 0x31, 0x32, 0x33, 0x34, 0x35, 0x36, 0x37, 0x38, 0x39, 0x41, 0x42, 0x43, 0x44, 0x2A, 0x23]

/-- FREE VALUE (DESIGN CHOICE, log entry 1; safe). The input vector of the n-th step, where the state
does not script it: bit 5 is `RST`, bits 4:1 are `COL_IN`, bit 0 is `DATA_IN`. The spec leaves every
input free (spec/10_state.md R59). -/
opaque Config.freeInput : Nat → BitVec 6

/-- FREE VALUE (DESIGN CHOICE, log entry 5; safe). The timer load of a dwell in mode Unset or Normal,
for which the spec gives no length (spec/43_wind_engine.md R251). -/
opaque Config.freeDwell : Nat → BitVec 24

end Sys2Proof
end

