-- ==== Sys2Proof/Syntax.lean ====
section
/-! DEFINITION. The instructions of spec/opcode_table.json, one constructor per row, and the two
enumerations their operands and results use (spec/30_encoding.md R107, R115). -/

namespace Sys2Proof

/-- The wind mode (R107). No code is reserved. -/
inductive Mode where
  /-- `0b00`, no wind mode is active -/
  | unset
  /-- `0b01` -/
  | normal
  /-- `0b10` -/
  | natural
  /-- `0b11` -/
  | sleep
  deriving DecidableEq, Repr

/-- The outcome code of a completed measurement (R115). No code is reserved. -/
inductive Status where
  /-- `0`, no measurement completed since reset -/
  | none
  /-- `1` -/
  | ok
  /-- `2`, the source's `PulseCountError` -/
  | pulseCount
  /-- `3`, the source's `ChecksumError` -/
  | checksum
  deriving DecidableEq, Repr

/-- The four action instructions, as the dispatcher executes them (spec/42_dispatcher.md R221 to R224). -/
inductive Action where
  /-- `NOP` (R221) -/
  | nop
  /-- `SET_SPEED p`, the percent as the word's `arg[7:0]` (R222) -/
  | setSpeed (p : Byte)
  /-- `SET_MODE m` (R223) -/
  | setMode (m : Mode)
  /-- `SET_THR t`, whole degrees Celsius (R224) -/
  | setThr (t : Byte)
  deriving DecidableEq, Repr

/-- One constructor per row of the opcode table: the four action words, then the 17 keycodes. -/
inductive Instr where
  /-- `NOP` -/
  | nop
  /-- `SET_SPEED p`; legal only for the percents of `P_SPEED_SET` (R108) -/
  | setSpeed (p : Byte)
  /-- `SET_MODE m` -/
  | setMode (m : Mode)
  /-- `SET_THR t` -/
  | setThr (t : Byte)
  /-- `NONE`, keycode 0x00 -/
  | keyNone
  | keyR0C0
  | keyR0C1
  | keyR0C2
  | keyR0C3
  | keyR1C0
  | keyR1C1
  | keyR1C2
  | keyR1C3
  | keyR2C0
  | keyR2C1
  | keyR2C2
  | keyR2C3
  | keyR3C0
  | keyR3C1
  | keyR3C2
  | keyR3C3
  deriving DecidableEq, Repr

/-- The instruction that an action is. -/
def Action.toInstr : Action → Instr
  | .nop => .nop
  | .setSpeed p => .setSpeed p
  | .setMode m => .setMode m
  | .setThr t => .setThr t

/-- The 16 key instructions in the order of their cells, `4·row + col` (R102). -/
def keyInstrs : Vector Instr 16 :=
  #v[.keyR0C0, .keyR0C1, .keyR0C2, .keyR0C3, .keyR1C0, .keyR1C1, .keyR1C2, .keyR1C3,
     .keyR2C0, .keyR2C1, .keyR2C2, .keyR2C3, .keyR3C0, .keyR3C1, .keyR3C2, .keyR3C3]

/-- The key instruction of the cell with index `4·row + col`. -/
def keyInstr (cell : Fin 16) : Instr := keyInstrs[cell.val]

end Sys2Proof
end

