-- ==== Sys2Proof/WellFormed.lean ====
section
/-! DEFINITION. Which instructions are well formed: those whose word is legal (spec/30_encoding.md R108).
The legal speeds are the build's `P_SPEED_SET` (spec/00_scope.md R6). -/

namespace Sys2Proof

/-- `SET_SPEED` takes only a percent of `P_SPEED_SET` (R108). -/
def legalSpeed (speeds : List Nat) (p : Byte) : Bool := speeds.contains p.toNat

/-- The legality rule of R108. The operands of `SET_MODE` and `SET_THR` are legal by their types. -/
def Action.wf (speeds : List Nat) : Action → Bool
  | .nop => true
  | .setSpeed p => legalSpeed speeds p
  | .setMode _ => true
  | .setThr _ => true

/-- An instruction is well formed when its word is a legal action word (R108) or a keycode the scanner
produces (R103). -/
def Instr.wf (speeds : List Nat) : Instr → Bool
  | .nop => true
  | .setSpeed p => legalSpeed speeds p
  | .setMode _ => true
  | .setThr _ => true
  | .keyNone => true
  | .keyR0C0 => true
  | .keyR0C1 => true
  | .keyR0C2 => true
  | .keyR0C3 => true
  | .keyR1C0 => true
  | .keyR1C1 => true
  | .keyR1C2 => true
  | .keyR1C3 => true
  | .keyR2C0 => true
  | .keyR2C1 => true
  | .keyR2C2 => true
  | .keyR2C3 => true
  | .keyR3C0 => true
  | .keyR3C1 => true
  | .keyR3C2 => true
  | .keyR3C3 => true

end Sys2Proof
end

