-- ==== Sys2Proof/Decode.lean ====
section
/-! DEFINITION. Decoding and encoding of the two instruction formats, `ACTION` and `KEYCODE`
(spec/30_encoding.md R102 to R108, R111), and of the `MODE` and `STATUS` codes. Decoding is total and
rejects a reserved word by name. Which words are legal depends on the build's speed set (R108). -/

namespace Sys2Proof

/-- Why a word is no instruction. -/
inductive DecodeError where
  /-- a keycode 0x01 to 0x0F (R103) -/
  | reservedKeycode (k : KeyWord)
  /-- an action word that R108 excludes -/
  | reservedAction (w : ActionWord)
  deriving DecidableEq, Repr

/-! ## Field codes -/

/-- The `MODE` code (R107). -/
def Mode.code : Mode → BitVec 2
  | .unset => 0
  | .normal => 1
  | .natural => 2
  | .sleep => 3

/-- The mode of a `MODE` code (R107). -/
def modeOfCode (c : BitVec 2) : Mode :=
  if c = 0 then .unset else if c = 1 then .normal else if c = 2 then .natural else .sleep

/-- The `STATUS` code (R115). -/
def Status.code : Status → BitVec 2
  | .none => 0
  | .ok => 1
  | .pulseCount => 2
  | .checksum => 3

/-- The status of a `STATUS` code (R115). -/
def statusOfCode (c : BitVec 2) : Status :=
  if c = 0 then .none else if c = 1 then .ok else if c = 2 then .pulseCount else .checksum

/-! ## Action words -/

/-- `op`, bits 9:8 of an action word (R106). -/
def actionOp (w : ActionWord) : BitVec 2 := w.extractLsb' 8 2

/-- `arg`, bits 7:0 of an action word (R106). -/
def actionArg (w : ActionWord) : Byte := w.extractLsb' 0 8

/-- An action word from its `op` and `arg` (R106). -/
def actionWord (op : BitVec 2) (arg : Byte) : ActionWord := op ++ arg

/-- The action an action word selects by its `op` (R111), if the word is legal (R108). -/
def decodeAction (speeds : List Nat) (w : ActionWord) : Except DecodeError Action :=
  if actionOp w = 0 then
    if actionArg w = 0 then .ok .nop else .error (.reservedAction w)
  else if actionOp w = 1 then
    if legalSpeed speeds (actionArg w) then .ok (.setSpeed (actionArg w)) else .error (.reservedAction w)
  else if actionOp w = 2 then
    if (actionArg w).extractLsb' 2 6 = 0 then .ok (.setMode (modeOfCode ((actionArg w).extractLsb' 0 2)))
    else .error (.reservedAction w)
  else .ok (.setThr (actionArg w))

/-- Whether R108 lists the action word as legal. -/
def actionLegal (speeds : List Nat) (w : ActionWord) : Bool :=
  match decodeAction speeds w with
  | .ok _ => true
  | .error _ => false

/-- The word of an action (R106, R107). -/
def encodeAction : Action → ActionWord
  | .nop => actionWord 0 0
  | .setSpeed p => actionWord 1 p
  | .setMode m => actionWord 2 (m.code.setWidth 8)
  | .setThr t => actionWord 3 t

/-! ## Keycodes -/

/-- `KC(r, c) = {1, r[1:0], c[1:0]}` (R102). -/
def keycode (r c : BitVec 2) : KeyWord := ((1 : BitVec 1) ++ r) ++ c

/-- `NONE` (R102). -/
def keycodeNone : KeyWord := 0

/-- The index of a keycode's cell in the action table, `KP.res[3:0]` (R116). -/
def cellIndex (k : KeyWord) : BitVec 4 := k.extractLsb' 0 4

/-- The key instruction of a keycode; 0x01 to 0x0F are reserved (R103). -/
def decodeKeycode (k : KeyWord) : Except DecodeError Instr :=
  if k = keycodeNone then .ok .keyNone
  else if k.getLsbD 4 then .ok (keyInstr (cellIndex k).toFin)
  else .error (.reservedKeycode k)

/-! ## Both formats -/

/-- The instruction of a code in either format. -/
def decode (speeds : List Nat) : Code → Except DecodeError Instr
  | .key k => decodeKeycode k
  | .act w =>
    match decodeAction speeds w with
    | .ok a => .ok a.toInstr
    | .error e => .error e

/-- The word of an instruction, in its format. -/
def encode : Instr → Code
  | .nop => .act (encodeAction .nop)
  | .setSpeed p => .act (encodeAction (.setSpeed p))
  | .setMode m => .act (encodeAction (.setMode m))
  | .setThr t => .act (encodeAction (.setThr t))
  | .keyNone => .key keycodeNone
  | .keyR0C0 => .key (keycode 0 0)
  | .keyR0C1 => .key (keycode 0 1)
  | .keyR0C2 => .key (keycode 0 2)
  | .keyR0C3 => .key (keycode 0 3)
  | .keyR1C0 => .key (keycode 1 0)
  | .keyR1C1 => .key (keycode 1 1)
  | .keyR1C2 => .key (keycode 1 2)
  | .keyR1C3 => .key (keycode 1 3)
  | .keyR2C0 => .key (keycode 2 0)
  | .keyR2C1 => .key (keycode 2 1)
  | .keyR2C2 => .key (keycode 2 2)
  | .keyR2C3 => .key (keycode 2 3)
  | .keyR3C0 => .key (keycode 3 0)
  | .keyR3C1 => .key (keycode 3 1)
  | .keyR3C2 => .key (keycode 3 2)
  | .keyR3C3 => .key (keycode 3 3)

/-! ## Words numbered as the opcode table numbers them -/

/-- The code that an opcode-table word is, given in whole bytes (DESIGN CHOICE, log entry 10). One
byte is a `KEYCODE`, of which the format has the low 5 bits. Two bytes are an `ACTION` word in the low
10 bits where that word is legal, else a `KEYCODE` with every bit above it zero (two of the table's key
rows are counted as two bytes), else an `ACTION` word, which the decoder then rejects by name. Bits
above the tenth belong to no format. -/
def tableCode (speeds : List Nat) (nbits w : Nat) : Option Code :=
  if nbits ≤ 8 then some (.key (BitVec.ofNat 5 w))
  else if 1024 ≤ w then none
  else if actionLegal speeds (BitVec.ofNat 10 w) then some (.act (BitVec.ofNat 10 w))
  else if w < 32 then some (.key (BitVec.ofNat 5 w))
  else some (.act (BitVec.ofNat 10 w))

/-- The instruction the decoder reads from an opcode-table word, with the default speed set. -/
def decodeTableWord (nbits w : Nat) : Option Instr :=
  match tableCode Config.speedSet nbits w with
  | none => none
  | some c =>
    match decode Config.speedSet c with
    | .ok i => some i
    | .error _ => none

end Sys2Proof
end

