-- ==== Sys2Proof/Machine/Build.lean ====
section
/-! DEFINITION. The build-time parameter set: its default values (spec/00_scope.md R6; the default
tables of spec/30_encoding.md R104, R110), when it is well formed (R7, R105, R108), and the levels and
row vectors it fixes (R13). -/

namespace Sys2Proof.Machine

/-- The default symbol table (R104): `123A / 456B / 789C / *0#D`. -/
def defaultSymbol : Vector Byte 16 :=
  #v[0x31, 0x32, 0x33, 0x41,
     0x34, 0x35, 0x36, 0x42,
     0x37, 0x38, 0x39, 0x43,
     0x2A, 0x30, 0x23, 0x44]

/-- The default action table (R110). -/
def defaultAction : Vector ActionWord 16 :=
  #v[0x11E, 0x13C, 0x150, 0x201,
     0x164, 0x000, 0x000, 0x202,
     0x000, 0x000, 0x000, 0x203,
     0x31E, 0x100, 0x328, 0x000]

/-- The default parameter set (R6), the two OPEN parameters given by the caller. -/
def defaultParams (keyActive : Bool) (minInterval : Nat) : Params where
  rows := 4
  cols := 4
  keyActive := keyActive
  symbol := defaultSymbol
  action := defaultAction
  debounce := 20000
  rowSettle := 1
  expected := 84
  speedSet := Config.speedSet
  dutyFull := 65535
  minInterval := minInterval
  startHigh := 1000
  reqLow := 18000
  bitBase := 4
  bitThreshold := 50
  maxUnchanged := 100
  cooldown := 10000000
  dwellNatural := 1000000
  dwellSleep := 2000000
  thrReset := 100

/-- The parameter set of the spec's test vectors: the OPEN parameters at their test values (R6;
DESIGN CHOICE of `State.reset`, log entry 2). -/
def testParams : Params := defaultParams false 200000

/-! ## Well-formedness -/

/-- A duration parameter fits the shared timer's 24 bits (R7). -/
def belowTimer (d : Nat) : Bool := decide (d < 2 ^ 24)

/-- The duration conditions of R7. -/
def durationsWf (p : Params) : Bool :=
  decide (1 ≤ p.startHigh) && belowTimer p.startHigh
    && decide (18000 ≤ p.reqLow) && belowTimer p.reqLow
    && decide (1 ≤ p.debounce) && belowTimer p.debounce
    && belowTimer p.minInterval
    && decide (1 ≤ p.cooldown) && belowTimer p.cooldown
    && decide (1 ≤ p.dwellNatural) && belowTimer p.dwellNatural
    && decide (1 ≤ p.dwellSleep) && belowTimer p.dwellSleep

/-- The bounds of R7 on the matrix size, the settle count, the stall limit and the threshold. -/
def boundsWf (p : Params) : Bool :=
  decide (p.rows = 4) && decide (p.cols = 4) && decide (p.rowSettle ≤ 256)
    && decide (1 ≤ p.maxUnchanged) && decide (p.maxUnchanged ≤ 255) && decide (p.thrReset ≤ 255)

/-- The bounds that the registers' widths put on the parameters R7 does not bound (DEDUCED, log entry 15):
`CAP.idx` has 7 bits (R46) and every decode index is in the capture buffer (spec/20_memory.md R83);
`MOT.duty` has 16 bits (R52); a legal speed is a percent, and the reset speed 0 is one (R32, R340). -/
def widthsWf (p : Params) : Bool :=
  decide (p.expected ≤ 127) && decide (p.bitBase + 78 < p.expected) && decide (p.dutyFull ≤ 65535)
    && p.speedSet.contains 0 && p.speedSet.all fun v => decide (v ≤ 100)

/-- Every action word of the table is legal (R7, R108). -/
def actionsWf (p : Params) : Bool := p.action.toList.all (actionLegal p.speedSet)

/-- The symbol table maps the 16 cells one-to-one onto the 16 symbols (R105): 16 cells that name all
of 16 symbols name each of them once. -/
def symbolsWf (p : Params) : Bool := Config.alphabet.all fun a => p.symbol.toList.contains a

/-- A well-formed parameter set (R7, R105); a model refuses any other. -/
def paramsWf (p : Params) : Bool :=
  boundsWf p && widthsWf p && durationsWf p && actionsWf p && symbolsWf p

/-! ## Levels and row vectors (R13) -/

/-- `ACTIVE = P_KEY_ACTIVE`. -/
def activeLevel (p : Params) : Bool := p.keyActive

/-- `INACTIVE = 1 - P_KEY_ACTIVE`. -/
def inactiveLevel (p : Params) : Bool := !p.keyActive

/-- `IDLE_ROWS`: all four bits `INACTIVE`. -/
def idleRows (p : Params) : BitVec 4 := if inactiveLevel p then 0b1111 else 0b0000

/-- `ONEHOT(r)`: bit `r` is `ACTIVE`, every other bit `INACTIVE`. -/
def oneHotRow (p : Params) (r : BitVec 2) : BitVec 4 := idleRows p ^^^ ((1 : BitVec 4) <<< r.toNat)

end Sys2Proof.Machine
end

