-- ==== Sys2Proof/Machine/Regs.lean ====
section
/-! DEFINITION. The registers of the block: the state S of spec/10_state.md R30, exactly the registers of
R31 to R54, in the spec's groups, and their reset values (spec/70_reset_and_hazards.md R340). -/

namespace Sys2Proof.Machine

/-- The states of agent FG (R37). -/
inductive FgState where
  /-- `F_CHECK` -/
  | check
  /-- `F_WAIT` -/
  | wait
  /-- `F_SAMPLE` -/
  | sample
  /-- `F_DISPATCH` -/
  | dispatch
  deriving DecidableEq, Repr

/-- The states of agent BG (R41). -/
inductive BgState where
  /-- `B_START` -/
  | start
  /-- `S_RATE` -/
  | rate
  /-- `S_HIGH` -/
  | high
  /-- `S_LOW` -/
  | low
  /-- `S_CAP` -/
  | cap
  /-- `S_DEC` -/
  | dec
  /-- `B_INTERLOCK` -/
  | interlock
  /-- `B_COOL` -/
  | cool
  /-- `B_PATTERN` -/
  | pattern
  /-- `B_DWELL_ON` -/
  | dwellOn
  /-- `B_OFF` -/
  | off
  /-- `B_DWELL_OFF` -/
  | dwellOff
  deriving DecidableEq, Repr

/-- `CS`, the shared control state (R32 to R34). -/
structure CsRegs where
  /-- `CS.speed`, percent -/
  speed : BitVec 7
  /-- `CS.mode` -/
  mode : Mode
  /-- `CS.thr`, whole degrees Celsius -/
  thr : Byte
  deriving DecidableEq, Repr

/-- `FG`, the foreground agent's registers (R37, R38). -/
structure FgRegs where
  state : FgState
  /-- `FG.row`, the row being scanned -/
  row : BitVec 2
  /-- `FG.wcnt`, the remaining settle cycles -/
  wcnt : BitVec 8
  deriving DecidableEq, Repr

/-- `KP`, the keypad scanner's registers (R39, R40). -/
structure KpRegs where
  /-- `KP.last`, the time of the last detection -/
  last : Time
  /-- `KP.valid`, a key was detected since reset -/
  valid : Bool
  /-- `KP.res`, the keycode of the last scan -/
  res : KeyWord
  deriving DecidableEq, Repr

/-- `BG`, the background agent's registers (R41, R42, R48). -/
structure BgRegs where
  state : BgState
  /-- `BG.md`, the mode latched at the iteration's start -/
  md : Mode
  /-- `BG.spd`, the speed latched at the iteration's start -/
  spd : BitVec 7
  /-- `BG.tmr`, the one down-counter of every BG hold -/
  tmr : BitVec 24
  deriving DecidableEq, Repr

/-- `SN`, the stored reading and the status of the sensor decoder (R44, R47, R49). -/
structure SnRegs where
  rdValid : Bool
  /-- humidity, integer part -/
  rdHi : Byte
  /-- humidity, decimal part -/
  rdHd : Byte
  /-- temperature, integer part -/
  rdTi : Byte
  /-- temperature, decimal part -/
  rdTd : Byte
  /-- the checksum byte -/
  rdCk : Byte
  /-- `SN.last_ok`, the time of the last success -/
  lastOk : Time
  status : Status
  deriving DecidableEq, Repr

/-- `CAP`, the capture buffer and its control registers (R45, R46). -/
structure CapRegs where
  /-- `CAP.d`, the pulse durations: `P_EXPECTED` entries, `CAP.d[0..83]` by default -/
  d : List Byte
  /-- `CAP.val`, the level last seen -/
  val : Bool
  /-- `CAP.idx`, the transitions recorded -/
  idx : BitVec 7
  /-- `CAP.unch`, the consecutive unchanged samples -/
  unch : BitVec 8
  /-- `CAP.ts`, the time of the last transition or of the capture's start -/
  ts : Time
  /-- `CAP.over`, an 85th transition was seen -/
  overrun : Bool
  deriving DecidableEq, Repr

/-- `OUT`, the pin drivers (R50, R51). -/
structure OutRegs where
  /-- `OUT.row`, bit `r` drives row `r` -/
  row : BitVec 4
  /-- `OUT.data_oe` -/
  dataOe : Bool
  /-- `OUT.data_out` -/
  dataOut : Bool
  deriving DecidableEq, Repr

/-- `MOT`, the motor command (R52). -/
structure MotRegs where
  duty : Duty
  /-- `MOT.wr`, the write strobe -/
  wr : Bool
  deriving DecidableEq, Repr

/-- `DISP`, the display snapshot (R54). -/
structure DispRegs where
  speed : BitVec 7
  mode : Mode
  thr : Byte
  tValid : Bool
  hi : Byte
  hd : Byte
  ti : Byte
  td : Byte
  status : Status
  warn : Bool
  /-- `DISP.wr`, the refresh strobe -/
  wr : Bool
  deriving DecidableEq, Repr

/-- The state S of the block (R30). -/
structure Regs where
  /-- `NOW` (R31) -/
  now : Time
  cs : CsRegs
  fg : FgRegs
  kp : KpRegs
  bg : BgRegs
  /-- `IL.tripped` (R43): the interlock is closed -/
  tripped : Bool
  sn : SnRegs
  cap : CapRegs
  out : OutRegs
  mot : MotRegs
  /-- `EN` (R53) -/
  en : Bool
  disp : DispRegs
  deriving DecidableEq, Repr

/-! ## Reset values (spec/70_reset_and_hazards.md R340) -/

/-- The value of every capture entry after reset: the spec gives none (DESIGN CHOICE, log entry 3; unsafe). -/
def captureReset (p : Params) : List Byte := List.replicate p.expected 0

/-- The reset state of R340 for a parameter set. -/
def resetRegs (p : Params) : Regs where
  now := 0
  cs := { speed := 0, mode := .unset, thr := BitVec.ofNat 8 p.thrReset }
  fg := { state := .check, row := 0, wcnt := 0 }
  kp := { last := 0, valid := false, res := keycodeNone }
  bg := { state := .start, md := .unset, spd := 0, tmr := 0 }
  tripped := true
  sn := { rdValid := false, rdHi := 0, rdHd := 0, rdTi := 0, rdTd := 0, rdCk := 0, lastOk := 0, status := .none }
  cap := { d := captureReset p, val := true, idx := 0, unch := 0, ts := 0, overrun := false }
  out := { row := idleRows p, dataOe := false, dataOut := true }
  mot := { duty := 0, wr := false }
  en := false
  disp := { speed := 0, mode := .unset, thr := 0, tValid := false, hi := 0, hd := 0, ti := 0, td := 0,
            status := .none, warn := false, wr := false }

end Sys2Proof.Machine
end

