-- ==== Sys2Proof/Machine/State.lean ====
section
/-! DEFINITION. The machine's state: the block's registers, its build-time parameters and the scripted
inputs of its environment; the reasons a step can stop. -/

namespace Sys2Proof.Machine

/-- The input vector of one cycle (spec/00_scope.md R8, spec/10_state.md R58). -/
structure Input where
  /-- `RST`, active high -/
  rst : Bool
  /-- `COL_IN`, bit `c` is column `c` -/
  col : BitVec 4
  /-- `DATA_IN` -/
  data : Bool
  deriving DecidableEq, Repr

/-- The state of the model. `regs` is the spec's state S; the three other fields are the model's own
(log entries 1 and 2). -/
structure State where
  /-- the build-time parameters, which no step writes (spec/00_scope.md R6) -/
  params : Params
  /-- the block's registers, the spec's state S -/
  regs : Regs
  /-- the inputs of the coming cycles, as far as they are scripted, the next cycle's first -/
  env : List Input
  /-- the number of steps taken, the index of this cycle's free values -/
  envCycle : Nat
  deriving DecidableEq, Repr

/-- The block has no fault: "No behaviour of the block is `fault` or `stuck`"
(spec/93_implementation_defined.md; spec/60_exceptions.md R303). So the type has no constructor. -/
inductive Fault where
  deriving DecidableEq, Repr

/-- Why the model stops instead of stepping (spec/60_exceptions.md R316). Each is safe: the model stops
where a well-formed block never comes. -/
inductive Refusal where
  /-- an instruction whose meaning the model lacks; raised by no arm of this model; safe -/
  | notModelled (mnemonic : String)
  /-- `step`: the parameter set is not well formed (R7, R105, R108); safe -/
  | illFormedParameters
  /-- `step`: an injected state breaks a domain of spec/10_state.md (R316); safe -/
  | brokenDomain
  /-- `step`, in `F_DISPATCH`: `KP.res` holds a reserved keycode 0x01 to 0x0F (R103, R220); safe -/
  | reservedKeycode (k : KeyWord)
  /-- `exec`, of a `SET_SPEED` outside `P_SPEED_SET` or of a key whose table entry is reserved: an
  action word that R108 excludes (R117: illegal, refused at build); safe -/
  | reservedAction (w : ActionWord)
  deriving DecidableEq, Repr

/-- The reset state for a parameter set (spec/70_reset_and_hazards.md R340), no input scripted. -/
def State.resetWith (p : Params) : State :=
  { params := p, regs := resetRegs p, env := [], envCycle := 0 }

/-- The machine right after reset, with the default parameters and the OPEN ones at their test values
(spec/00_scope.md R6; log entry 2). -/
def State.reset : State := State.resetWith testParams

end Sys2Proof.Machine
end

