-- ==== Sys2Proof/Machine/Environment.lean ====
section
/-! DEFINITION. The environment's input vector of the current cycle (spec/00_scope.md R8;
spec/10_state.md R58, R59): the scripted one, or a free value (DESIGN CHOICE, log entry 1; safe). -/

namespace Sys2Proof.Machine

/-- An input vector from its six bits: `RST`, `COL_IN[3:0]`, `DATA_IN`. -/
def inputOfBits (b : BitVec 6) : Input :=
  { rst := b.getLsbD 5, col := b.extractLsb' 1 4, data := b.getLsbD 0 }

/-- `In(n)`, the inputs sampled in this cycle. Reading them has no side effect (R86). -/
def State.input (s : State) : Input :=
  match s.env with
  | i :: _ => i
  | [] => inputOfBits (Config.freeInput s.envCycle)

/-- The environment moves on to the next cycle. -/
def State.nextEnv (s : State) : State := { s with env := s.env.tail, envCycle := s.envCycle + 1 }

end Sys2Proof.Machine
end

