-- ==== Sys2Proof/Machine/Operands.lean ====
section
/-! DEFINITION. Operand assembly (spec/30_encoding.md R112, R116), the values the operations load, and
the pure functions of the spec: `DUTY`, `DW`, `DECODE`. -/

namespace Sys2Proof.Machine

/-! ## The motor's scaling (spec/44_motor_display.md R281) -/

/-- `round(percent · P_DUTY_FULL / 100)`, the quotient taken exactly and a tie rounded to the even
integer; `full` is `P_DUTY_FULL`, 65 535 by default. -/
def dutyNat (full percent : Nat) : Nat :=
  let q := percent * full / 100
  let r := percent * full % 100
  if 2 * r < 100 then q
  else if 100 < 2 * r then q + 1
  else if q % 2 = 0 then q
  else q + 1

/-- `DUTY(percent)` as a native duty code. Every percent of `P_SPEED_SET` fits (R281). -/
def dutyCode (p : Params) (percent : Nat) : Duty := BitVec.ofNat 16 (dutyNat p.dutyFull percent)

/-! ## Action arguments (R116): nothing is sign-extended, scaled or shifted -/

/-- `arg[6:0]`, the value `SET_SPEED` writes to `CS.speed`. -/
def speedOperand (arg : Byte) : BitVec 7 := arg.setWidth 7

/-- `DUTY(arg)`, the value `SET_SPEED` pushes to the motor (spec/42_dispatcher.md R222). -/
def pushOperand (p : Params) (arg : Byte) : Duty := dutyCode p arg.toNat

/-- The action word of the cell with the given index (spec/42_dispatcher.md R220). -/
def actionOfCell (p : Params) (cell : Fin 16) : ActionWord := p.action[cell.val]

/-! ## Timer loads (spec/10_state.md R48): a hold of `D` cycles is entered with `D - 1` -/

/-- `D - 1` in the 24 bits of `BG.tmr`; R7 bounds every `D` below 2^24. -/
def timerLoad (d : Nat) : BitVec 24 := BitVec.ofNat 24 (d - 1)

/-- `P_ROW_SETTLE - 1` in the 8 bits of `FG.wcnt`; R7 bounds `P_ROW_SETTLE` by 256. -/
def settleLoad (p : Params) : BitVec 8 := BitVec.ofNat 8 (p.rowSettle - 1)

/-- `DW(m) - 1` (spec/43_wind_engine.md R251). `DW` is not used for Unset and Normal, and the spec gives
it no value there: a free value (DESIGN CHOICE, log entry 5; safe). -/
def dwellLoad (p : Params) (cycle : Nat) : Mode → BitVec 24
  | .natural => timerLoad p.dwellNatural
  | .sleep => timerLoad p.dwellSleep
  | .unset => Config.freeDwell cycle
  | .normal => Config.freeDwell cycle

/-! ## Times -/

/-- `NOW - x`. The spec has `NOW ≥ x` in every run (spec/10_state.md R31); elsewhere the 64-bit difference
(DEDUCED, log entry 4; unsafe only there). -/
def elapsed (now x : Time) : Nat := (now - x).toNat

/-- `zext_8(NOW - CAP.ts)`, the duration that `CapWrite` stores (spec/41_sensor_decoder.md R178). It is at
most 255 in every run (R186); elsewhere its low 8 bits (DEDUCED, log entry 6). -/
def pulseDuration (now ts : Time) : Byte := (now - ts).setWidth 8

/-! ## The column sample (spec/40_keypad_scanner.md R144) -/

/-- Whether column `c` reads the active level. -/
def columnActive (p : Params) (col : BitVec 4) (c : Nat) : Bool := col.getLsbD c == activeLevel p

/-- `min A`, the lowest active column, if any column is active. -/
def firstActiveColumn (p : Params) (col : BitVec 4) : Option (BitVec 2) :=
  if columnActive p col 0 then some 0
  else if columnActive p col 1 then some 1
  else if columnActive p col 2 then some 2
  else if columnActive p col 3 then some 3
  else none

/-! ## The bit decoder (spec/41_sensor_decoder.md R181; spec/30_encoding.md R112, R113) -/

/-- `CapRead(i)`. The decode reads only inside the buffer (spec/20_memory.md R83). -/
def capRead (d : List Byte) (i : Nat) : Byte := d.getD i 0

/-- Frame bit `j`, the first received being 0: whether `d[P_BIT_BASE + 2j]` is longer than the threshold. -/
def frameBit (p : Params) (d : List Byte) (j : Nat) : Bool :=
  decide (p.bitThreshold < (capRead d (p.bitBase + 2 * j)).toNat)

/-- The 40 frame bits packed, the first received ending as bit 39. -/
def frameWord (p : Params) (d : List Byte) : BitVec 40 :=
  (List.range 40).foldl (fun w j => (w <<< 1) ||| (BitVec.ofBool (frameBit p d j)).setWidth 40) 0

/-- The five bytes of a frame (R112). -/
structure Frame where
  b0 : Byte
  b1 : Byte
  b2 : Byte
  b3 : Byte
  b4 : Byte
  deriving DecidableEq, Repr

/-- `b_k = W[39 - 8k : 32 - 8k]`. -/
def frameOfWord (w : BitVec 40) : Frame :=
  { b0 := w.extractLsb' 32 8, b1 := w.extractLsb' 24 8, b2 := w.extractLsb' 16 8,
    b3 := w.extractLsb' 8 8, b4 := w.extractLsb' 0 8 }

/-- `DECODE(CAP.d)`. -/
def decodeFrame (p : Params) (d : List Byte) : Frame := frameOfWord (frameWord p d)

end Sys2Proof.Machine
end

