-- ==== Sys2Proof/Machine/Flags.lean ====
section
/-! DEFINITION. The conditions the operations test. The block has no condition codes (spec/10_state.md
R55); its one-bit status registers are written by the operations themselves. -/

namespace Sys2Proof.Machine

/-- `SUPPRESS` (spec/40_keypad_scanner.md R140): the debounce window of the last detection is still open. -/
def suppressed (p : Params) (r : Regs) : Bool :=
  r.kp.valid && decide (elapsed r.now r.kp.last < p.debounce)

/-- The settle wait is over (R143). -/
def settled (r : Regs) : Bool := r.fg.wcnt == 0

/-- The row being sampled is the last, `P_ROWS - 1 = 3` (R146). -/
def lastRow (r : Regs) : Bool := r.fg.row == 3

/-- The direct push of `SET_SPEED` happens (spec/42_dispatcher.md R222): no wind mode is active and the
interlock is not tripped. -/
def pushAllowed (r : Regs) : Bool := decide (r.cs.mode = .unset) && !r.tripped

/-- `BG.tmr = 0`. -/
def timerDone (r : Regs) : Bool := r.bg.tmr == 0

/-- The measurement is rate-limited (spec/41_sensor_decoder.md R171). -/
def rateLimited (p : Params) (r : Regs) : Bool :=
  r.sn.rdValid && decide (elapsed r.now r.sn.lastOk < p.minInterval)

/-- The sample of the data pin is a transition (R177). -/
def isTransition (i : Input) (r : Regs) : Bool := i.data != r.cap.val

/-- The capture buffer has room for one more transition, `CAP.idx < P_EXPECTED` (R178). -/
def captureRoom (p : Params) (r : Regs) : Bool := decide (r.cap.idx.toNat < p.expected)

/-- An unchanged sample completes the stall (R180). -/
def stalled (p : Params) (r : Regs) : Bool := decide (r.cap.unch.toNat = p.maxUnchanged - 1)

/-- The capture's transition count is wrong (R182). -/
def countWrong (p : Params) (r : Regs) : Bool :=
  r.cap.overrun || decide (r.cap.idx.toNat ≠ p.expected)

/-- `(b0 + b1 + b2 + b3) mod 256 = b4` (R183). -/
def checksumOk (f : Frame) : Bool := f.b0 + f.b1 + f.b2 + f.b3 == f.b4

/-- `TRIP` (spec/43_wind_engine.md R242): no reading, or the temperature in tenths is at or above the
threshold. -/
def trips (r : Regs) : Bool :=
  !r.sn.rdValid || decide (10 * r.cs.thr.toNat ≤ 10 * r.sn.rdTi.toNat + r.sn.rdTd.toNat)

/-- The mode differs from the one latched at the iteration's start (R246, R248 to R250). -/
def modeChanged (r : Regs) : Bool := decide (r.cs.mode ≠ r.bg.md)

end Sys2Proof.Machine
end

