-- ==== Sys2Proof/Machine/Ops.lean ====
section
/-! DEFINITION. The shared operations on the registers, each a write of the spec's pseudocode
(spec/00_scope.md R12), and the execution of an action word (spec/42_dispatcher.md).

TAKING AN EXCEPTION has no counterpart: the block has no trap, interrupt, privilege level or return
(spec/60_exceptions.md R303, R306, R308, R310). What stands in its place is `report E` (R300), one
shared operation, `Regs.report`. -/

namespace Sys2Proof.Machine

/-! ## Register writes -/

/-- `goto X` of agent FG. -/
def Regs.fgGoto (r : Regs) (x : FgState) : Regs := { r with fg := { r.fg with state := x } }

/-- `goto X` of agent BG. -/
def Regs.bgGoto (r : Regs) (x : BgState) : Regs := { r with bg := { r.bg with state := x } }

/-- `BG.tmr <- v`. -/
def Regs.setTimer (r : Regs) (v : BitVec 24) : Regs := { r with bg := { r.bg with tmr := v } }

/-- `BG.tmr <- BG.tmr - 1`. -/
def Regs.tickTimer (r : Regs) : Regs := r.setTimer (r.bg.tmr - 1)

/-- `MOT.duty <- v`, with its strobe (spec/44_motor_display.md R283, R288). -/
def Regs.writeDuty (r : Regs) (v : Duty) : Regs := { r with mot := { duty := v, wr := true } }

/-- `DISPLAY(w)`, with its strobe (R286). -/
def Regs.refresh (r : Regs) (w : Bool) : Regs :=
  { r with disp :=
    { speed := r.cs.speed, mode := r.cs.mode, thr := r.cs.thr, tValid := r.sn.rdValid,
      hi := r.sn.rdHi, hd := r.sn.rdHd, ti := r.sn.rdTi, td := r.sn.rdTd,
      status := r.sn.status, warn := w, wr := true } }

/-- `IL.tripped <- b`. -/
def Regs.setTripped (r : Regs) (b : Bool) : Regs := { r with tripped := b }

/-- `OUT.row <- v`. -/
def Regs.driveRows (r : Regs) (v : BitVec 4) : Regs := { r with out := { r.out with row := v } }

/-- `OUT.data_oe <- oe; OUT.data_out <- v`. -/
def Regs.driveData (r : Regs) (oe v : Bool) : Regs :=
  { r with out := { r.out with dataOe := oe, dataOut := v } }

/-- `KP.res <- k`. -/
def Regs.setResult (r : Regs) (k : KeyWord) : Regs := { r with kp := { r.kp with res := k } }

/-- `report E`: the outcome of a measurement goes to `SN.status` and to nothing else
(spec/60_exceptions.md R300). -/
def Regs.report (r : Regs) (e : Status) : Regs := { r with sn := { r.sn with status := e } }

/-- `CapWrite(i, v)` (spec/10_state.md R45). Every write of the block has `i` below `P_EXPECTED`,
the number of entries (spec/20_memory.md R83). -/
def capWrite (d : List Byte) (i : Nat) (v : Byte) : List Byte := d.set i v

/-- The strobes are 0 in every cycle that does not raise them (spec/44_motor_display.md R288): each cycle
starts from the registers with both at 0. No rule reads a strobe. -/
def Regs.clearStrobes (r : Regs) : Regs :=
  { r with mot := { r.mot with wr := false }, disp := { r.disp with wr := false } }

/-- An operation on the registers, as an operation on the model's state. -/
def State.onRegs (s : State) (f : Regs → Regs) : State := { s with regs := f s.regs }

/-- The start of a cycle: the state that both agents read. -/
def State.startCycle (s : State) : State := s.onRegs Regs.clearStrobes

/-! ## The four actions (spec/42_dispatcher.md R221 to R224), each with the dispatch's `goto F_CHECK` (R220) -/

/-- `NOP` writes nothing (R221). -/
def doNop (r : Regs) : Regs := r.fgGoto .check

/-- `CS.speed <- arg[6:0]`. -/
def Regs.setSpeed (r : Regs) (v : BitVec 7) : Regs := { r with cs := { r.cs with speed := v } }

/-- `CS.mode <- m`. -/
def Regs.setMode (r : Regs) (m : Mode) : Regs := { r with cs := { r.cs with mode := m } }

/-- `CS.thr <- t`. -/
def Regs.setThr (r : Regs) (t : Byte) : Regs := { r with cs := { r.cs with thr := t } }

/-- `SET_SPEED p`: the speed, and the direct push where it is allowed (R222). -/
def doSetSpeed (ps : Params) (p : Byte) (r : Regs) : Regs :=
  let r' := (r.setSpeed (speedOperand p)).fgGoto .check
  if pushAllowed r then r'.writeDuty (pushOperand ps p) else r'

/-- `SET_MODE m` (R223). -/
def doSetMode (m : Mode) (r : Regs) : Regs := (r.setMode m).fgGoto .check

/-- `SET_THR t` (R224). -/
def doSetThr (t : Byte) (r : Regs) : Regs := (r.setThr t).fgGoto .check

/-- One action on the registers. -/
def doAction (ps : Params) : Action → Regs → Regs
  | .nop => doNop
  | .setSpeed p => doSetSpeed ps p
  | .setMode m => doSetMode m
  | .setThr t => doSetThr t

/-- Execute one action: an illegal one has no meaning (R117: "Illegal: the action words rule R108
excludes") and is refused by name. -/
def runAction (a : Action) (s : State) : Host.Outcome State Fault Refusal :=
  if a.wf s.params.speedSet then .next (s.onRegs (doAction s.params a))
  else .refused (.reservedAction (encodeAction a))

/-- Decode and execute an action word (R220, R111). -/
def runActionWord (w : ActionWord) (s : State) : Host.Outcome State Fault Refusal :=
  match decodeAction s.params.speedSet w with
  | .ok a => runAction a s
  | .error _ => .refused (.reservedAction w)

/-- The dispatch of a cell's key: read its action word and execute it (R220). -/
def runCell (cell : Fin 16) (s : State) : Host.Outcome State Fault Refusal :=
  runActionWord (actionOfCell s.params cell) s

end Sys2Proof.Machine
end

