-- ==== Sys2Proof/Machine/Checks.lean ====
section
/-! DEFINITION. The domains of spec/10_state.md that a register's width does not already enforce. A model
refuses an injected state that breaks one (spec/60_exceptions.md R316; spec/93_implementation_defined.md I9). -/

namespace Sys2Proof.Machine

/-- A percent of `P_SPEED_SET` (R32). -/
def speedInDomain (p : Params) (v : BitVec 7) : Bool := p.speedSet.contains v.toNat

/-- `CS.speed` and its copy `BG.spd` hold a legal percent (R32, R42; spec/44_motor_display.md R281),
`CAP.idx` is at most `P_EXPECTED` (R46) and `CAP.d` has `P_EXPECTED` entries (R45). -/
def domainOk (p : Params) (r : Regs) : Bool :=
  speedInDomain p r.cs.speed && speedInDomain p r.bg.spd && decide (r.cap.idx.toNat ≤ p.expected)
    && decide (r.cap.d.length = p.expected)

end Sys2Proof.Machine
end

