-- ==== Sys2Proof/Machine/Actions.lean ====
section
/-! DEFINITION. The meanings of the four action instructions (spec/42_dispatcher.md R221 to R224): what
agent FG writes in the cycle that executes the instruction. The cycle's other writes, those of agent BG
and of the step, are merged around them by Machine/Agents.lean. -/

namespace Sys2Proof.Machine

/-- `NOP` (R221). -/
def execNop (s : State) : Host.Outcome State Fault Refusal := runAction .nop s

/-- `SET_SPEED p` (R222). A percent outside `P_SPEED_SET` is a reserved word (R108, R117): refused. -/
def execSetSpeed (p : Byte) (s : State) : Host.Outcome State Fault Refusal := runAction (.setSpeed p) s

/-- `SET_MODE m` (R223). -/
def execSetMode (m : Mode) (s : State) : Host.Outcome State Fault Refusal := runAction (.setMode m) s

/-- `SET_THR t` (R224). -/
def execSetThr (t : Byte) (s : State) : Host.Outcome State Fault Refusal := runAction (.setThr t) s

end Sys2Proof.Machine
end

