-- ==== Sys2Proof/Machine/Keys.lean ====
section
/-! DEFINITION. The meanings of the 17 keycodes: what the dispatcher does with each as the result of a
scan (spec/42_dispatcher.md R220). How the scanner produces them is Machine/Scanner.lean
(spec/40_keypad_scanner.md R141, R145, R146; DEDUCED, log entry 8). -/

namespace Sys2Proof.Machine

/-- `NONE`: "no key" executes the word 0x000, `NOP` (R220). -/
def execKeyNone (s : State) : Host.Outcome State Fault Refusal := runActionWord 0x000 s

/-- The key of row 0, column 0: the action the table gives keycode 0x10. -/
def execKeyR0C0 (s : State) : Host.Outcome State Fault Refusal := runCell 0 s

/-- The key of row 0, column 1: the action the table gives keycode 0x11. -/
def execKeyR0C1 (s : State) : Host.Outcome State Fault Refusal := runCell 1 s

/-- The key of row 0, column 2: the action the table gives keycode 0x12. -/
def execKeyR0C2 (s : State) : Host.Outcome State Fault Refusal := runCell 2 s

/-- The key of row 0, column 3: the action the table gives keycode 0x13. -/
def execKeyR0C3 (s : State) : Host.Outcome State Fault Refusal := runCell 3 s

/-- The key of row 1, column 0: the action the table gives keycode 0x14. -/
def execKeyR1C0 (s : State) : Host.Outcome State Fault Refusal := runCell 4 s

/-- The key of row 1, column 1: the action the table gives keycode 0x15. -/
def execKeyR1C1 (s : State) : Host.Outcome State Fault Refusal := runCell 5 s

/-- The key of row 1, column 2: the action the table gives keycode 0x16. -/
def execKeyR1C2 (s : State) : Host.Outcome State Fault Refusal := runCell 6 s

/-- The key of row 1, column 3: the action the table gives keycode 0x17. -/
def execKeyR1C3 (s : State) : Host.Outcome State Fault Refusal := runCell 7 s

/-- The key of row 2, column 0: the action the table gives keycode 0x18. -/
def execKeyR2C0 (s : State) : Host.Outcome State Fault Refusal := runCell 8 s

/-- The key of row 2, column 1: the action the table gives keycode 0x19. -/
def execKeyR2C1 (s : State) : Host.Outcome State Fault Refusal := runCell 9 s

/-- The key of row 2, column 2: the action the table gives keycode 0x1A. -/
def execKeyR2C2 (s : State) : Host.Outcome State Fault Refusal := runCell 10 s

/-- The key of row 2, column 3: the action the table gives keycode 0x1B. -/
def execKeyR2C3 (s : State) : Host.Outcome State Fault Refusal := runCell 11 s

/-- The key of row 3, column 0: the action the table gives keycode 0x1C. -/
def execKeyR3C0 (s : State) : Host.Outcome State Fault Refusal := runCell 12 s

/-- The key of row 3, column 1: the action the table gives keycode 0x1D. -/
def execKeyR3C1 (s : State) : Host.Outcome State Fault Refusal := runCell 13 s

/-- The key of row 3, column 2: the action the table gives keycode 0x1E. -/
def execKeyR3C2 (s : State) : Host.Outcome State Fault Refusal := runCell 14 s

/-- The key of row 3, column 3: the action the table gives keycode 0x1F. -/
def execKeyR3C3 (s : State) : Host.Outcome State Fault Refusal := runCell 15 s

end Sys2Proof.Machine
end

