-- ==== Sys2Proof/Machine/Dispatch.lean ====
section
/-! DEFINITION. One arm per instruction. -/

namespace Sys2Proof.Machine

def exec (i : Instr) (s : State) : Host.Outcome State Fault Refusal :=
  match i with
  | .nop => Sys2Proof.Machine.execNop s
  | .setSpeed p => Sys2Proof.Machine.execSetSpeed p s
  | .setMode m => Sys2Proof.Machine.execSetMode m s
  | .setThr t => Sys2Proof.Machine.execSetThr t s
  | .keyNone => Sys2Proof.Machine.execKeyNone s
  | .keyR0C0 => Sys2Proof.Machine.execKeyR0C0 s
  | .keyR0C1 => Sys2Proof.Machine.execKeyR0C1 s
  | .keyR0C2 => Sys2Proof.Machine.execKeyR0C2 s
  | .keyR0C3 => Sys2Proof.Machine.execKeyR0C3 s
  | .keyR1C0 => Sys2Proof.Machine.execKeyR1C0 s
  | .keyR1C1 => Sys2Proof.Machine.execKeyR1C1 s
  | .keyR1C2 => Sys2Proof.Machine.execKeyR1C2 s
  | .keyR1C3 => Sys2Proof.Machine.execKeyR1C3 s
  | .keyR2C0 => Sys2Proof.Machine.execKeyR2C0 s
  | .keyR2C1 => Sys2Proof.Machine.execKeyR2C1 s
  | .keyR2C2 => Sys2Proof.Machine.execKeyR2C2 s
  | .keyR2C3 => Sys2Proof.Machine.execKeyR2C3 s
  | .keyR3C0 => Sys2Proof.Machine.execKeyR3C0 s
  | .keyR3C1 => Sys2Proof.Machine.execKeyR3C1 s
  | .keyR3C2 => Sys2Proof.Machine.execKeyR3C2 s
  | .keyR3C3 => Sys2Proof.Machine.execKeyR3C3 s

end Sys2Proof.Machine
end

