-- ==== Sys2Proof/Machine/Engine.lean ====
section
/-! DEFINITION. The wind pattern engine and the temperature interlock, the states `B_*` of agent BG
(spec/43_wind_engine.md). -/

namespace Sys2Proof.Machine

/-- `B_START` (R240): latch the mode and the speed of the iteration. -/
def engineStart (r : Regs) : Regs :=
  { r with bg := { r.bg with md := r.cs.mode, spd := r.cs.speed, state := .rate } }

/-- `B_INTERLOCK`, trip (R243): duty 0, the warning, the cool-down. -/
def interlockTrip (p : Params) (r : Regs) : Regs :=
  ((((r.writeDuty (dutyCode p 0)).refresh true).setTripped true).setTimer (timerLoad p.cooldown)).bgGoto .cool

/-- `B_INTERLOCK` (R242 to R244). -/
def engineInterlock (p : Params) (r : Regs) : Regs :=
  if trips r then interlockTrip p r else (r.setTripped false).bgGoto .pattern

/-- `B_COOL` (R245). -/
def engineCool (r : Regs) : Regs := if timerDone r then r.bgGoto .start else r.tickTimer

/-- The ON step: the latched speed's duty and a refresh (R246). -/
def dutyOn (p : Params) (r : Regs) : Regs := (r.writeDuty (dutyCode p r.bg.spd.toNat)).refresh false

/-- `B_PATTERN` (R246, R247). -/
def enginePattern (p : Params) (cycle : Nat) (r : Regs) : Regs :=
  if modeChanged r then r.bgGoto .start
  else
    match r.bg.md with
    | .unset => (r.refresh false).bgGoto .start
    | .normal => (dutyOn p r).bgGoto .start
    | .natural => ((dutyOn p r).setTimer (dwellLoad p cycle .natural)).bgGoto .dwellOn
    | .sleep => ((dutyOn p r).setTimer (dwellLoad p cycle .sleep)).bgGoto .dwellOn

/-- `B_DWELL_ON` (R248): a mode change takes priority over the timer. -/
def engineDwellOn (r : Regs) : Regs :=
  if modeChanged r then r.bgGoto .start
  else if timerDone r then r.bgGoto .off
  else r.tickTimer

/-- `B_OFF` (R249). -/
def engineOff (p : Params) (cycle : Nat) (r : Regs) : Regs :=
  if modeChanged r then r.bgGoto .start
  else (((r.writeDuty (dutyCode p 0)).refresh false).setTimer (dwellLoad p cycle r.bg.md)).bgGoto .dwellOff

/-- `B_DWELL_OFF` (R250). -/
def engineDwellOff (r : Regs) : Regs :=
  if modeChanged r then r.bgGoto .start
  else if timerDone r then r.bgGoto .start
  else r.tickTimer

end Sys2Proof.Machine
end

