-- ==== Sys2Proof/Machine/Scanner.lean ====
section
/-! DEFINITION. The keypad scanner, agent FG outside `F_DISPATCH` (spec/40_keypad_scanner.md). -/

namespace Sys2Proof.Machine

/-- Drive row `x` and go on to its sample, after the settle wait if there is one (R142, R147). -/
def startRow (p : Params) (x : BitVec 2) (r : Regs) : Regs :=
  let r' := (r.driveRows (oneHotRow p x)).fgGoto (if 0 < p.rowSettle then .wait else .sample)
  { r' with fg := { r'.fg with row := x, wcnt := if 0 < p.rowSettle then settleLoad p else r.fg.wcnt } }

/-- `F_CHECK`, suppressed (R141): "no key", no row driven. -/
def scanSuppressed (r : Regs) : Regs := (r.setResult keycodeNone).fgGoto .dispatch

/-- `F_CHECK` (R140 to R142). -/
def scanCheck (p : Params) (r : Regs) : Regs :=
  if suppressed p r then scanSuppressed r else startRow p 0 r

/-- `F_WAIT` (R143). -/
def scanWait (r : Regs) : Regs :=
  if settled r then r.fgGoto .sample else { r with fg := { r.fg with wcnt := r.fg.wcnt - 1 } }

/-- `F_SAMPLE`, a match in column `c` (R145): the keycode, the detection's time, the row released. -/
def scanMatch (p : Params) (c : BitVec 2) (r : Regs) : Regs :=
  let r' := (r.driveRows (idleRows p)).fgGoto .dispatch
  { r' with kp := { last := r.now, valid := true, res := keycode r.fg.row c } }

/-- `F_SAMPLE`, no match on the last row (R146). -/
def scanNoKey (p : Params) (r : Regs) : Regs :=
  ((r.driveRows (idleRows p)).setResult keycodeNone).fgGoto .dispatch

/-- `F_SAMPLE` (R144 to R147): the lowest active column of the driven row wins. -/
def scanSample (p : Params) (i : Input) (r : Regs) : Regs :=
  match firstActiveColumn p i.col with
  | some c => scanMatch p c r
  | none => if lastRow r then scanNoKey p r else startRow p (r.fg.row + 1) r

end Sys2Proof.Machine
end

