-- ==== Sys2Proof/Machine/Sensor.lean ====
section
/-! DEFINITION. The single-wire sensor decoder, the states `S_*` of agent BG (spec/41_sensor_decoder.md). -/

namespace Sys2Proof.Machine

/-- `S_RATE`, request start (R172): the pin becomes an output, held high. -/
def requestStart (p : Params) (r : Regs) : Regs :=
  ((r.driveData true true).setTimer (timerLoad p.startHigh)).bgGoto .high

/-- `S_RATE` (R171, R172): a rate-limited measurement writes nothing. -/
def senseRate (p : Params) (r : Regs) : Regs :=
  if rateLimited p r then r.bgGoto .interlock else requestStart p r

/-- `S_HIGH` (R173): the host then pulls the line low; the direction stays. -/
def senseHigh (p : Params) (r : Regs) : Regs :=
  if timerDone r then ((r.driveData r.out.dataOe false).setTimer (timerLoad p.reqLow)).bgGoto .low
  else r.tickTimer

/-- `S_LOW`, release and capture initialisation (R176): the reference level is 1, the reference time the
first released cycle, `NOW + 1`. `OUT.data_out` keeps its value. -/
def captureStart (r : Regs) : Regs :=
  let r' := (r.driveData false r.out.dataOut).bgGoto .cap
  { r' with cap := { r.cap with val := true, idx := 0, unch := 0, ts := r.now + 1, overrun := false } }

/-- `S_LOW` (R174, R176). -/
def senseLow (r : Regs) : Regs := if timerDone r then captureStart r else r.tickTimer

/-- `S_CAP`, transition recorded (R178). -/
def captureRecord (i : Input) (r : Regs) : Regs :=
  { r with cap :=
    { r.cap with
      d := capWrite r.cap.d r.cap.idx.toNat (pulseDuration r.now r.cap.ts)
      ts := r.now, idx := r.cap.idx + 1, val := i.data, unch := 0 } }

/-- `S_CAP`, one transition more than the buffer holds, by default the 85th (R179): it ends the capture and is not recorded. -/
def captureOverrun (r : Regs) : Regs :=
  { r with cap := { r.cap with overrun := true } }.bgGoto .dec

/-- `S_CAP`, unchanged sample (R180): the stall ends the capture. -/
def captureUnchanged (p : Params) (r : Regs) : Regs :=
  if stalled p r then r.bgGoto .dec
  else { r with cap := { r.cap with unch := r.cap.unch + 1 } }

/-- `S_CAP` (R177 to R180). -/
def senseCapture (p : Params) (i : Input) (r : Regs) : Regs :=
  if isTransition i r then
    if captureRoom p r then captureRecord i r else captureOverrun r
  else captureUnchanged p r

/-- The reading a successful measurement stores (R183). -/
def storeReading (f : Frame) (r : Regs) : Regs :=
  { r with sn :=
    { r.sn with rdValid := true, rdHi := f.b0, rdHd := f.b1, rdTi := f.b2, rdTd := f.b3, rdCk := f.b4,
                lastOk := r.now } }

/-- `S_DEC` (R182 to R184, in the order of spec/60_exceptions.md R304): the count is tested first. -/
def senseDecode (p : Params) (r : Regs) : Regs :=
  if countWrong p r then (r.report .pulseCount).bgGoto .interlock
  else
    let f := decodeFrame p r.cap.d
    if checksumOk f then ((storeReading f r).report .ok).bgGoto .interlock
    else (r.report .checksum).bgGoto .interlock

end Sys2Proof.Machine
end

