-- ==== Sys2Proof/Machine/Agents.lean ====
section
/-! DEFINITION. One cycle of the block (spec/00_scope.md R8): both agents step from the same
start-of-cycle state and their writes are merged; reset overrides both; the model's refusals
(spec/60_exceptions.md R316). -/

namespace Sys2Proof.Machine

/-- The instruction the dispatcher fetches: the keycode in `KP.res` (spec/42_dispatcher.md R220). -/
def fetchInstr (s : State) : Except DecodeError Instr := decodeKeycode s.regs.kp.res

/-- `F_DISPATCH` (R220): execute the fetched instruction; a reserved keycode is refused (R103). -/
def fgDispatch (s : State) : Host.Outcome State Fault Refusal :=
  match fetchInstr s with
  | .ok i => exec i s
  | .error _ => .refused (.reservedKeycode s.regs.kp.res)

/-- `StepFG`: the operation that `FG.state` names. -/
def fgStep (s : State) : Host.Outcome State Fault Refusal :=
  match s.regs.fg.state with
  | .check => .next (s.onRegs (scanCheck s.params))
  | .wait => .next (s.onRegs scanWait)
  | .sample => .next (s.onRegs (scanSample s.params s.input))
  | .dispatch => fgDispatch s

/-- `StepBG`: the operation that `BG.state` names. -/
def bgStep (s : State) : Regs :=
  match s.regs.bg.state with
  | .start => engineStart s.regs
  | .rate => senseRate s.params s.regs
  | .high => senseHigh s.params s.regs
  | .low => senseLow s.regs
  | .cap => senseCapture s.params s.input s.regs
  | .dec => senseDecode s.params s.regs
  | .interlock => engineInterlock s.params s.regs
  | .cool => engineCool s.regs
  | .pattern => enginePattern s.params s.envCycle s.regs
  | .dwellOn => engineDwellOn s.regs
  | .off => engineOff s.params s.envCycle s.regs
  | .dwellOff => engineDwellOff s.regs

/-- The merge of the two agents' writes, by the single-writer table of spec/10_state.md R35. BG wins the
motor's duty (spec/44_motor_display.md R283): both agents start with the strobe at 0, so a raised strobe
says that the agent wrote the duty. -/
def mergeRegs (rF rB : Regs) : Regs where
  now := rF.now + 1
  cs := rF.cs
  fg := rF.fg
  kp := rF.kp
  bg := rB.bg
  tripped := rB.tripped
  sn := rB.sn
  cap := rB.cap
  out := { row := rF.out.row, dataOe := rB.out.dataOe, dataOut := rB.out.dataOut }
  mot := if rB.mot.wr then rB.mot else rF.mot
  en := true
  disp := rB.disp

/-- The state after a cycle without reset, from FG's state and BG's registers. -/
def State.merge (sF : State) (rB : Regs) : State := (sF.onRegs fun rF => mergeRegs rF rB).nextEnv

/-- One cycle without reset. -/
def cycle (s : State) : Host.Outcome State Fault Refusal :=
  match fgStep s.startCycle with
  | .next sF => .next (sF.merge (bgStep s.startCycle))
  | .fault f => .fault f
  | .refused r => .refused r

/-- One cycle with `RST = 1` (spec/70_reset_and_hazards.md R340): the reset state, whatever the state and
the other inputs. -/
def resetCycle (s : State) : State := { s with regs := resetRegs s.params }.nextEnv

/-- One step: the refusals of R316, the reset, else a cycle. A reset is taken from any state (R340,
"whatever `S(n)`"), so the domains are checked after it (DEDUCED, log entry 11). -/
def oneStep (s : State) : Host.Outcome State Fault Refusal :=
  if !paramsWf s.params then .refused .illFormedParameters
  else if s.input.rst then .next (resetCycle s)
  else if !domainOk s.params s.regs then .refused .brokenDomain
  else cycle s

/-- A state whose next cycle dispatches the given code (log entry 9): FG is in `F_DISPATCH` and `RST` is
0 in the next cycle. A keycode stands in `KP.res`; an action word is the table entry of cell 0, whose
keycode stands in `KP.res`. -/
def placeCode (s : State) (c : Code) : State :=
  let env := { s.input with rst := false } :: s.env.tail
  match c with
  | .key k => { s with env := env, regs := (s.regs.setResult k).fgGoto .dispatch }
  | .act w =>
    { s with env := env, regs := (s.regs.setResult (keycode 0 0)).fgGoto .dispatch,
             params := { s.params with action := s.params.action.set 0 w } }

end Sys2Proof.Machine
end

