-- ==== Sys2Proof/Machine/Step.lean ====
section
/-! DEFINITION. The step of the machine, one cycle of the block, and the placing of an opcode-table word
where the next step fetches. -/

namespace Sys2Proof.Machine

/-- One cycle (spec/00_scope.md R8, R9). -/
def step (s : State) : Host.Outcome State Fault Refusal := oneStep s

/-- The state with an opcode-table word placed so that the next step fetches and runs it (log entry 9).
A number that is no word of either format leaves the state as it is. -/
def State.withFetchWord (s : State) (nbits w : Nat) : State :=
  match tableCode s.params.speedSet nbits w with
  | some c => placeCode s c
  | none => s

end Sys2Proof.Machine
end

