-- ==== Sys2Proof/Machine/Ports.lean ====
section
/-! DEFINITION. The output ports, each a function of the registers alone (spec/10_state.md R60;
spec/00_scope.md R10), and the display word (spec/44_motor_display.md R287). -/

namespace Sys2Proof.Machine

/-- A level as one bit. -/
def bit (b : Bool) : BitVec 1 := BitVec.ofBool b

/-- `DISP_WORD`, 53 bits, most significant field first (R287). -/
def dispWord (d : DispRegs) : BitVec 53 :=
  (d.speed ++ (d.mode.code ++ (d.thr ++ (bit d.tValid ++
    (d.hi ++ (d.hd ++ (d.ti ++ (d.td ++ (d.status.code ++ bit d.warn))))))))).cast (by decide)

/-- The output ports (R60). -/
structure Ports where
  /-- `ROW_OUT` -/
  rowOut : BitVec 4
  /-- `COL_PULL`: constant `INACTIVE`, the pull direction of the columns -/
  colPull : Bool
  /-- `DATA_OE` -/
  dataOe : Bool
  /-- `DATA_OUT` -/
  dataOut : Bool
  /-- `DATA_PU`: the pull-up is on whenever the pin is an input -/
  dataPu : Bool
  /-- `MOTOR_DUTY` -/
  motorDuty : Duty
  /-- `MOTOR_WR` -/
  motorWr : Bool
  /-- `MOTOR_EN` -/
  motorEn : Bool
  /-- `DISP_*` as one word -/
  disp : BitVec 53
  /-- `DISP_WR` -/
  dispWr : Bool
  /-- `IL_TRIPPED` -/
  ilTripped : Bool
  /-- `SN_STATUS` -/
  snStatus : BitVec 2
  /-- `KEY_CODE` -/
  keyCode : KeyWord
  deriving DecidableEq, Repr

/-- The ports in a state. -/
def ports (p : Params) (r : Regs) : Ports where
  rowOut := r.out.row
  colPull := inactiveLevel p
  dataOe := r.out.dataOe
  dataOut := r.out.dataOut
  dataPu := !r.out.dataOe
  motorDuty := r.mot.duty
  motorWr := r.mot.wr
  motorEn := r.en
  disp := dispWord r.disp
  dispWr := r.disp.wr
  ilTripped := r.tripped
  snStatus := r.sn.status.code
  keyCode := r.kp.res

end Sys2Proof.Machine
end

