-- ==== Sys2Proof/Safety.lean ====
section
/-! DEFINITION. What counts as a safe state and a safe run, in the terms the statements use: the
invariants of the registers that the spec states or derives, and what a cycle commands. -/

namespace Sys2Proof.Machine

/-! ## What a cycle commands, read from the spec's rules and not from the operations -/

/-- The action that the dispatcher executes in this cycle, if FG is in `F_DISPATCH`
(spec/42_dispatcher.md R220). -/
def dispatchedAction (s : State) : Option Action :=
  if s.regs.fg.state = .dispatch then
    if s.regs.kp.res = 0 then some .nop
    else if s.regs.kp.res.getLsbD 4 then
      match decodeAction s.params.speedSet (actionOfCell s.params (cellIndex s.regs.kp.res).toFin) with
      | .ok a => some a
      | .error _ => none
    else none
  else none

/-- FG's duty write of this cycle (spec/44_motor_display.md R282). -/
def pushedDuty (s : State) : Option Duty :=
  match dispatchedAction s with
  | some (.setSpeed p) =>
    if s.regs.cs.mode = .unset ∧ s.regs.tripped = false then some (dutyCode s.params p.toNat) else none
  | some .nop => none
  | some (.setMode _) => none
  | some (.setThr _) => none
  | none => none

/-- The interlock condition of this cycle: the reading is unavailable, or at or above the threshold
(spec/43_wind_engine.md R242). -/
def tripNow (r : Regs) : Bool :=
  decide (r.sn.rdValid = false ∨ 10 * r.sn.rdTi.toNat + r.sn.rdTd.toNat ≥ 10 * r.cs.thr.toNat)

/-- BG trips in this cycle (R243). -/
def tripsAt (r : Regs) : Bool := decide (r.bg.state = .interlock) && tripNow r

/-- BG passes the interlock check in this cycle (R244). -/
def passesAt (r : Regs) : Bool := decide (r.bg.state = .interlock) && !tripNow r

/-- BG performs a pattern step in this cycle (R246): the mode is still the latched one. -/
def patternAt (r : Regs) : Bool := decide (r.bg.state = .pattern) && decide (r.cs.mode = r.bg.md)

/-- The pattern step writes the motor's duty: in every mode but Unset (R246, R247). -/
def drivesAt (r : Regs) : Bool := patternAt r && decide (r.bg.md ≠ .unset)

/-- BG performs the OFF step in this cycle (R249). -/
def offAt (r : Regs) : Bool := decide (r.bg.state = .off) && decide (r.cs.mode = r.bg.md)

/-- What a display refresh with warning bit `w` shows: the start-of-cycle values of the shared state
(spec/44_motor_display.md R286). -/
def shown (r : Regs) (w : Bool) : DispRegs :=
  { speed := r.cs.speed, mode := r.cs.mode, thr := r.cs.thr, tValid := r.sn.rdValid,
    hi := r.sn.rdHi, hd := r.sn.rdHd, ti := r.sn.rdTi, td := r.sn.rdTd, status := r.sn.status,
    warn := w, wr := true }

/-! ## Invariants of the registers -/

/-- The motor carries the duty code of a legal percent (spec/44_motor_display.md R289); with the default
parameters these are 0, 19 660, 39 321, 52 428 and 65 535. -/
abbrev DutyLegal (p : Params) (r : Regs) : Prop := r.mot.duty ∈ p.speedSet.map (dutyCode p)

/-- `KP.res` never holds a reserved keycode (spec/30_encoding.md R103). -/
abbrev KeyLegal (r : Regs) : Prop := r.kp.res = 0 ∨ r.kp.res.getLsbD 4 = true

/-- The rows are idle outside a scan; in a scan exactly the scanned row is active
(spec/10_state.md R50; spec/40_keypad_scanner.md R153). -/
abbrev RowsMatch (p : Params) (r : Regs) : Prop :=
  ((r.fg.state = .check ∨ r.fg.state = .dispatch) → r.out.row = idleRows p) ∧
  ((r.fg.state = .wait ∨ r.fg.state = .sample) → r.out.row = oneHotRow p r.fg.row)

/-- The settle count is below `P_ROW_SETTLE` (spec/40_keypad_scanner.md R143). -/
abbrev WaitBounded (p : Params) (r : Regs) : Prop :=
  r.fg.state = .wait → r.fg.wcnt.toNat < p.rowSettle

/-- The data pin is driven exactly in `S_HIGH` (with 1) and `S_LOW` (with 0)
(spec/41_sensor_decoder.md R175, R190). -/
abbrev PinMatch (r : Regs) : Prop :=
  (r.out.dataOe = true ↔ (r.bg.state = .high ∨ r.bg.state = .low)) ∧
  (r.bg.state = .high → r.out.dataOut = true) ∧
  (r.bg.state = .low → r.out.dataOut = false)

/-- The interlock holds the motor (spec/43_wind_engine.md R254): while it is tripped the duty is 0, it is
tripped in the cool-down and it is not tripped in a pattern step. -/
abbrev InterlockHeld (r : Regs) : Prop :=
  (r.tripped = true → r.mot.duty = 0) ∧
  (r.bg.state = .cool → r.tripped = true) ∧
  ((r.bg.state = .pattern ∨ r.bg.state = .dwellOn ∨ r.bg.state = .off ∨ r.bg.state = .dwellOff) →
    r.tripped = false)

/-- The ON and OFF steps run only with a latched mode of Natural or Sleep (R249). -/
abbrev DwellMode (r : Regs) : Prop :=
  (r.bg.state = .dwellOn ∨ r.bg.state = .off ∨ r.bg.state = .dwellOff) →
    (r.bg.md = .natural ∨ r.bg.md = .sleep)

/-- `DW(m)` for the two modes that dwell (R251). -/
def dwellLength (p : Params) (m : Mode) : Nat := if m = .natural then p.dwellNatural else p.dwellSleep

/-- The shared timer is below the length of the hold that it times (spec/10_state.md R48). -/
abbrev TimerBounded (p : Params) (r : Regs) : Prop :=
  (r.bg.state = .high → r.bg.tmr.toNat < p.startHigh) ∧
  (r.bg.state = .low → r.bg.tmr.toNat < p.reqLow) ∧
  (r.bg.state = .cool → r.bg.tmr.toNat < p.cooldown) ∧
  ((r.bg.state = .dwellOn ∨ r.bg.state = .dwellOff) → r.bg.tmr.toNat < dwellLength p r.bg.md)

/-- A capture in progress (spec/41_sensor_decoder.md R177, R180, R186): the reference level follows the
parity of the transitions, the stall count is below the limit, and the time since the last transition
is the number of samples since it. -/
abbrev CaptureSound (p : Params) (r : Regs) : Prop :=
  r.bg.state = .cap →
    r.cap.overrun = false ∧
    r.cap.val = decide (r.cap.idx.toNat % 2 = 0) ∧
    r.cap.unch.toNat < p.maxUnchanged ∧
    r.now - r.cap.ts = BitVec.ofNat 64 (r.cap.unch.toNat + (if r.cap.idx.toNat = 0 then 0 else 1))

/-- Every duration recorded in the current capture is at most `P_MAX_UNCHANGED`, and the first is below
it (spec/41_sensor_decoder.md R186). -/
abbrev DurationsBounded (p : Params) (r : Regs) : Prop :=
  (r.bg.state = .cap ∨ r.bg.state = .dec) →
    (∀ j, j < r.cap.idx.toNat → (capRead r.cap.d j).toNat ≤ p.maxUnchanged) ∧
    (0 < r.cap.idx.toNat → (capRead r.cap.d 0).toNat < p.maxUnchanged)

/-- A stored reading satisfies the checksum, and a success status comes with a stored reading
(spec/41_sensor_decoder.md R183). -/
abbrev ReadingSound (r : Regs) : Prop :=
  (r.sn.rdValid = true → r.sn.rdHi + r.sn.rdHd + r.sn.rdTi + r.sn.rdTd = r.sn.rdCk) ∧
  (r.sn.status = .ok → r.sn.rdValid = true)

/-- The invariant of the block: a well-formed parameter set, every domain, and all of the above. -/
structure BlockInv (s : State) : Prop where
  /-- The parameters are well formed (R7). -/
  params : paramsWf s.params = true
  /-- The registers are in their domains (R316). -/
  domain : domainOk s.params s.regs = true
  /-- R289. -/
  duty : DutyLegal s.params s.regs
  /-- R103. -/
  key : KeyLegal s.regs
  /-- R50, R153. -/
  rows : RowsMatch s.params s.regs
  /-- R143. -/
  wait : WaitBounded s.params s.regs
  /-- R175, R190. -/
  pin : PinMatch s.regs
  /-- R254. -/
  interlock : InterlockHeld s.regs
  /-- R249. -/
  dwell : DwellMode s.regs
  /-- R48. -/
  timer : TimerBounded s.params s.regs
  /-- R177, R180, R186. -/
  capture : CaptureSound s.params s.regs
  /-- R186. -/
  durations : DurationsBounded s.params s.regs
  /-- R183. -/
  reading : ReadingSound s.regs

/-- The register values of the table of spec/70_reset_and_hazards.md R340. It gives the entries of `CAP.d`
no value; only their number is stated. -/
def ResetValues (p : Params) (r : Regs) : Prop :=
  r.now = 0 ∧ r.cs.speed = 0 ∧ r.cs.mode = .unset ∧ r.cs.thr.toNat = p.thrReset ∧
  r.fg = { state := .check, row := 0, wcnt := 0 } ∧
  r.kp = { last := 0, valid := false, res := 0 } ∧
  r.bg = { state := .start, md := .unset, spd := 0, tmr := 0 } ∧
  r.tripped = true ∧
  r.sn = { rdValid := false, rdHi := 0, rdHd := 0, rdTi := 0, rdTd := 0, rdCk := 0, lastOk := 0,
           status := .none } ∧
  r.cap.d.length = p.expected ∧ r.cap.val = true ∧ r.cap.idx = 0 ∧ r.cap.unch = 0 ∧ r.cap.ts = 0 ∧ r.cap.overrun = false ∧
  (∀ i : Fin 4, r.out.row.getLsbD i = !p.keyActive) ∧ r.out.dataOe = false ∧ r.out.dataOut = true ∧
  r.mot = { duty := 0, wr := false } ∧ r.en = false ∧
  r.disp = { speed := 0, mode := .unset, thr := 0, tValid := false, hi := 0, hd := 0, ti := 0, td := 0,
             status := .none, warn := false, wr := false }

/-! ## Steps and runs -/

/-- The step of this cycle is an ordinary one: the parameters are well formed, no reset is asserted and
no domain is broken. -/
abbrev Ready (s : State) : Prop :=
  paramsWf s.params = true ∧ s.input.rst = false ∧ domainOk s.params s.regs = true

/-- The environment has scripted the inputs of the next `n` cycles, with no reset among them. The column
and data levels are any. -/
abbrev QuietFor (s : State) (n : Nat) : Prop :=
  n ≤ s.env.length ∧ ∀ i ∈ s.env.take n, i.rst = false

/-- `n` steps. -/
def run (n : Nat) (s : State) : Host.Outcome State Fault Refusal := Sys2Proof.core.run n s

end Sys2Proof.Machine
end

