-- ==== Sys2Proof/Certificates/Slice0/Obligations.lean ====
section
/-! DEFINITION. The statements about the block, for the provers. Each says in its docstring which rule of
spec/ it formalises. -/

open Sys2Proof Sys2Proof.Machine

/-! ## Encoding -/

/-- Decoding and encoding agree, in both directions and for every speed set: a word in either format
decodes to `i` exactly when `i` is well formed and the word is `i`'s (spec/30_encoding.md R102 to R108,
R111). -/
def Obligations.DecodeEncodeAgree : Prop :=
  ∀ (speeds : List Nat) (c : Code) (i : Instr),
    decode speeds c = .ok i ↔ (i.wf speeds = true ∧ encode i = c)

/-- R108: with the default speed set the legal action words are exactly the 266 listed; with any other
the `SET_SPEED` words are those of its percents; and a well-formed parameter set holds only legal words
in its action table. -/
def Obligations.LegalActionWordsAreTheListedOnes : Prop :=
  (∀ w : ActionWord, actionLegal Config.speedSet w = true ↔
    (w = 0x000 ∨ w ∈ [(0x100 : ActionWord), 0x11E, 0x13C, 0x150, 0x164] ∨
      (0x200 ≤ w ∧ w ≤ 0x203) ∨ 0x300 ≤ w)) ∧
  (∀ (speeds : List Nat) (w : ActionWord), actionLegal speeds w = true ↔
    (w = 0x000 ∨ (∃ v ∈ speeds, v < 256 ∧ w.toNat = 0x100 + v) ∨
      (0x200 ≤ w ∧ w ≤ 0x203) ∨ 0x300 ≤ w)) ∧
  (∀ p : Params, paramsWf p = true →
    ∀ cell : Fin 16, actionLegal p.speedSet p.action[cell.val] = true)

/-- Words written out bit by bit from R102, R106 and R107 decode to the instructions they stand for. -/
def Obligations.WrittenOutWordsDecode : Prop :=
  decode Config.speedSet (.act 0b0000000000) = .ok .nop ∧
  decode Config.speedSet (.act 0b0100011110) = .ok (.setSpeed 30) ∧
  decode Config.speedSet (.act 0b1000000010) = .ok (.setMode .natural) ∧
  decode Config.speedSet (.act 0b1100101000) = .ok (.setThr 40) ∧
  decode Config.speedSet (.key 0b00000) = .ok .keyNone ∧
  decode Config.speedSet (.key 0b10110) = .ok .keyR1C2 ∧
  decode Config.speedSet (.key 0b11101) = .ok .keyR3C1

/-- R105: a symbol table is accepted exactly if it names each of the 16 symbols once. -/
def Obligations.SymbolTableIsOneToOne : Prop :=
  ∀ p : Params, symbolsWf p = true ↔ p.symbol.toList.Perm Config.alphabet

/-- R7 (with R105 and R108 for the tables): the accepted parameter sets. The bounds on the parameters that
R7 does not bound (`P_EXPECTED`, `P_BIT_BASE`, `P_DUTY_FULL`, `P_SPEED_SET`) are the model's reading of the
registers' widths and of R83 (log entry 15). -/
def Obligations.AcceptedParameterSets : Prop :=
  ∀ p : Params, paramsWf p = true ↔
    (p.rows = 4 ∧ p.cols = 4 ∧ p.rowSettle ≤ 256 ∧ 1 ≤ p.maxUnchanged ∧ p.maxUnchanged ≤ 255 ∧
     p.thrReset ≤ 255 ∧
     p.expected ≤ 127 ∧ p.bitBase + 78 < p.expected ∧ p.dutyFull ≤ 65535 ∧
     0 ∈ p.speedSet ∧ (∀ v ∈ p.speedSet, v ≤ 100) ∧
     1 ≤ p.startHigh ∧ 18000 ≤ p.reqLow ∧ 1 ≤ p.debounce ∧ 1 ≤ p.cooldown ∧ 1 ≤ p.dwellNatural ∧
     1 ≤ p.dwellSleep ∧
     (∀ d ∈ [p.startHigh, p.reqLow, p.debounce, p.minInterval, p.cooldown, p.dwellNatural, p.dwellSleep],
       d < 2 ^ 24) ∧
     (∀ cell : Fin 16, actionLegal p.speedSet p.action[cell.val] = true) ∧ symbolsWf p = true)

/-! ## The instructions -/

/-- R221: `NOP`, "no key", and every key whose table entry is 0x000 write nothing; FG goes on to
`F_CHECK` (R220). -/
def Obligations.NopWritesNothing : Prop :=
  ∀ s : State,
    let t : State := { s with regs := { s.regs with fg := { s.regs.fg with state := .check } } }
    exec .nop s = .next t ∧ exec .keyNone s = .next t ∧
    ∀ cell : Fin 16, s.params.action[cell.val] = 0x000 → exec (keyInstr cell) s = .next t

/-- R222: `SET_SPEED p` for each legal percent (by default 0, 30, 60, 80, 100): the speed, and the direct
push exactly if no wind mode is active and the interlock is not tripped; nothing else. -/
def Obligations.SetSpeedStoresAndPushes : Prop :=
  ∀ (s : State) (p : Byte), p.toNat ∈ s.params.speedSet →
    exec (.setSpeed p) s = .next { s with regs :=
      { s.regs with
        cs := { s.regs.cs with speed := p.extractLsb' 0 7 }
        fg := { s.regs.fg with state := .check }
        mot := if s.regs.cs.mode = .unset ∧ s.regs.tripped = false
          then { duty := dutyCode s.params p.toNat, wr := true } else s.regs.mot } }

/-- R223: `SET_MODE m` writes the mode; nothing else. -/
def Obligations.SetModeWritesTheMode : Prop :=
  ∀ (s : State) (m : Mode),
    exec (.setMode m) s = .next { s with regs :=
      { s.regs with
        cs := { s.regs.cs with mode := m }
        fg := { s.regs.fg with state := .check } } }

/-- R224: `SET_THR t` writes the threshold, any of 0 to 255; nothing else. -/
def Obligations.SetThrWritesTheThreshold : Prop :=
  ∀ (s : State) (v : Byte),
    exec (.setThr v) s = .next { s with regs :=
      { s.regs with
        cs := { s.regs.cs with thr := v }
        fg := { s.regs.fg with state := .check } } }

/-- R220: each of the 16 keys executes the action word of its cell in the action table; with a
well-formed parameter set it always completes. -/
def Obligations.KeysExecuteTheirTableAction : Prop :=
  ∀ (s : State), paramsWf s.params = true →
    ∀ k ∈ [(Instr.keyR0C0, (0 : Fin 16)), (.keyR0C1, 1), (.keyR0C2, 2), (.keyR0C3, 3),
           (.keyR1C0, 4), (.keyR1C1, 5), (.keyR1C2, 6), (.keyR1C3, 7),
           (.keyR2C0, 8), (.keyR2C1, 9), (.keyR2C2, 10), (.keyR2C3, 11),
           (.keyR3C0, 12), (.keyR3C1, 13), (.keyR3C2, 14), (.keyR3C3, 15)],
      ∃ (a : Instr) (t : State), decode s.params.speedSet (.act s.params.action[k.2.val]) = .ok a ∧
        exec k.1 s = .next t ∧ exec a s = .next t

/-- What `exec` does with an action word that R108 excludes is the model's choice (log entry 12, DEDUCED):
R108 and R117 say only that such a word cannot stand in the action table. `SET_SPEED` outside the legal
percents, and a key whose table entry is reserved, are refused by name. -/
def Obligations.ReservedActionWordsAreRefused : Prop :=
  (∀ (s : State) (p : Byte), p.toNat ∉ s.params.speedSet →
    exec (.setSpeed p) s = .refused (.reservedAction (0b01#2 ++ p))) ∧
  (∀ (s : State) (cell : Fin 16), actionLegal s.params.speedSet s.params.action[cell.val] = false →
    exec (keyInstr cell) s = .refused (.reservedAction s.params.action[cell.val]))

/-- R225, the frame of every instruction that completes: it writes `CS`, the motor command and FG's state
only; at most one field of `CS` changes; the motor command changes only with the speed's push, and it
ends in `F_CHECK`. -/
def Obligations.InstructionFrame : Prop :=
  ∀ (i : Instr) (s t : State), exec i s = .next t →
    t.params = s.params ∧ t.env = s.env ∧ t.envCycle = s.envCycle ∧
    t.regs.now = s.regs.now ∧ t.regs.kp = s.regs.kp ∧ t.regs.bg = s.regs.bg ∧
    t.regs.tripped = s.regs.tripped ∧ t.regs.sn = s.regs.sn ∧ t.regs.cap = s.regs.cap ∧
    t.regs.out = s.regs.out ∧ t.regs.en = s.regs.en ∧ t.regs.disp = s.regs.disp ∧
    t.regs.fg.state = .check ∧ t.regs.fg.row = s.regs.fg.row ∧ t.regs.fg.wcnt = s.regs.fg.wcnt ∧
    (t.regs.cs.speed = s.regs.cs.speed ∨
      (t.regs.cs.mode = s.regs.cs.mode ∧ t.regs.cs.thr = s.regs.cs.thr)) ∧
    (t.regs.cs.mode = s.regs.cs.mode ∨
      (t.regs.cs.thr = s.regs.cs.thr ∧ t.regs.mot = s.regs.mot)) ∧
    (t.regs.cs.thr = s.regs.cs.thr ∨ t.regs.mot = s.regs.mot) ∧
    (t.regs.mot = s.regs.mot ∨
      (s.regs.cs.mode = .unset ∧ s.regs.tripped = false ∧ t.regs.mot.wr = true ∧
       (paramsWf s.params = true → t.regs.mot.duty = dutyCode s.params t.regs.cs.speed.toNat)))

/-- R220, R8: in `F_DISPATCH` a step runs the instruction that `KP.res` decodes to, on the state with the
strobes at 0, and merges agent BG's writes of the same cycle around it. -/
def Obligations.StepRunsTheDecodedInstruction : Prop :=
  ∀ (s : State) (i : Instr), Ready s → s.regs.fg.state = .dispatch →
    decode s.params.speedSet (.key s.regs.kp.res) = .ok i →
    i.wf s.params.speedSet = true ∧
    step s = match exec i s.startCycle with
      | .next sF => .next (sF.merge (bgStep s.startCycle))
      | .fault f => .fault f
      | .refused r => .refused r

/-- R220, R32 to R34: the control state changes only at a dispatch, by the dispatched action. -/
def Obligations.ControlStateChangesOnlyByDispatch : Prop :=
  ∀ s t : State, s.input.rst = false → step s = .next t →
    t.regs.cs = match dispatchedAction s with
      | some (.setSpeed p) => { s.regs.cs with speed := p.extractLsb' 0 7 }
      | some (.setMode m) => { s.regs.cs with mode := m }
      | some (.setThr v) => { s.regs.cs with thr := v }
      | some .nop => s.regs.cs
      | none => s.regs.cs

/-! ## The motor and the display -/

/-- R281: the scaling is the nearest integer to `p · P_DUTY_FULL / 100` for every percent, the even one at
a tie, and with the default `P_DUTY_FULL`, 65 535, the table. -/
def Obligations.DutyIsRoundedToNearestEven : Prop :=
  (∀ (ps : Params) (p : Nat), ps.dutyFull ≤ 65535 → p ≤ 100 →
    let n := (dutyCode ps p).toNat
    2 * (100 * n) ≤ 2 * (p * ps.dutyFull) + 100 ∧ 2 * (p * ps.dutyFull) ≤ 2 * (100 * n) + 100 ∧
    ((2 * (100 * n) = 2 * (p * ps.dutyFull) + 100 ∨ 2 * (p * ps.dutyFull) = 2 * (100 * n) + 100) →
      n % 2 = 0)) ∧
  ∀ ps : Params, ps.dutyFull = 65535 →
    [0, 30, 60, 80, 100].map (dutyCode ps) = [0, 19660, 39321, 52428, 65535]

/-- R282, R283, R288: the motor command after a cycle without reset. A trip, a pattern step in a mode other
than Unset and an OFF step write it, in this order of the tests; else FG's push does; else the duty
stays; the strobe says whether it was written. -/
def Obligations.MotorCommandOfACycle : Prop :=
  ∀ s t : State, s.input.rst = false → step s = .next t →
    t.regs.mot =
      if tripsAt s.regs then { duty := 0, wr := true }
      else if drivesAt s.regs then { duty := dutyCode s.params s.regs.bg.spd.toNat, wr := true }
      else if offAt s.regs then { duty := 0, wr := true }
      else match pushedDuty s with
        | some v => { duty := v, wr := true }
        | none => { duty := s.regs.mot.duty, wr := false }

/-- R284: where an FG push meets a BG duty write, BG is tripping in mode Unset, and the result is 0. The
premise rules out only states with an OFF step in mode Unset, which no run reaches. -/
def Obligations.DutyWritesCoincideOnlyAtATrip : Prop :=
  ∀ s t : State, s.input.rst = false → DwellMode s.regs → step s = .next t →
    (pushedDuty s).isSome = true →
    (bgStep s.startCycle).mot.wr = true →
    s.regs.cs.mode = .unset ∧ tripsAt s.regs = true ∧ t.regs.mot.duty = 0 ∧ t.regs.tripped = true

/-- R286, R288: the display snapshot is refreshed exactly at a trip (with the warning), at a pattern step and
at an OFF step, from the start-of-cycle values; else it stays and its strobe is 0. -/
def Obligations.DisplaySnapshotOfACycle : Prop :=
  ∀ s t : State, s.input.rst = false → step s = .next t →
    t.regs.disp =
      if tripsAt s.regs || patternAt s.regs || offAt s.regs then
        shown s.regs (tripsAt s.regs)
      else { s.regs.disp with wr := false }

/-- R287: where each field stands in `DISP_WORD`. -/
def Obligations.DisplayWordLayout : Prop :=
  ∀ d : DispRegs,
    (dispWord d).extractLsb' 46 7 = d.speed ∧ (dispWord d).extractLsb' 44 2 = d.mode.code ∧
    (dispWord d).extractLsb' 36 8 = d.thr ∧ (dispWord d).getLsbD 35 = d.tValid ∧
    (dispWord d).extractLsb' 27 8 = d.hi ∧ (dispWord d).extractLsb' 19 8 = d.hd ∧
    (dispWord d).extractLsb' 11 8 = d.ti ∧ (dispWord d).extractLsb' 3 8 = d.td ∧
    (dispWord d).extractLsb' 1 2 = d.status.code ∧ (dispWord d).getLsbD 0 = d.warn

/-! ## Reset, the timebase, the refusals -/

/-- R340: a reset takes effect from any registers and overrides every other write of its cycle. -/
def Obligations.ResetOverridesEverything : Prop :=
  ∀ s : State, paramsWf s.params = true → s.input.rst = true →
    ∃ t, step s = .next t ∧ ResetValues s.params t.regs ∧ t.params = s.params

/-- R340, R34: the machine's reset state holds the values of the table for every well-formed parameter
set, and the default threshold is 100. -/
def Obligations.ResetStateHoldsTheTable : Prop :=
  (∀ p : Params, paramsWf p = true → ResetValues p (State.resetWith p).regs) ∧
  State.reset.regs.cs.thr = 100 ∧ paramsWf State.reset.params = true

/-- R343: while `RST` stays 1 the state stays the reset state. -/
def Obligations.ResetHeldStaysReset : Prop :=
  ∀ (s : State) (n : Nat), paramsWf s.params = true → 1 ≤ n → n ≤ s.env.length →
    (∀ i ∈ s.env.take n, i.rst = true) →
    ∃ t, run n s = .next t ∧ ResetValues s.params t.regs

/-- R31, R53: a cycle without reset counts the timebase up by one and leaves the motor enabled; the
parameters never change (R340: they "are fixed at build"). -/
def Obligations.TimebaseCountsAndMotorIsEnabled : Prop :=
  ∀ s t : State, step s = .next t →
    t.params = s.params ∧
    (s.input.rst = false → t.regs.now = s.regs.now + 1 ∧ t.regs.en = true) ∧
    (s.input.rst = true → t.regs.now = 0 ∧ t.regs.en = false)

/-- R316, R340: the model stops instead of stepping in exactly these cases, and never faults (R303). That
a state outside a domain may still be reset is the model's reading (log entry 11), as is the domain of
`BG.spd`. -/
def Obligations.StepStopsExactlyInTheListedCases : Prop :=
  ∀ s : State,
    ((∃ t, step s = .next t) ↔
      (paramsWf s.params = true ∧
        (s.input.rst = true ∨
          (s.regs.cs.speed.toNat ∈ s.params.speedSet ∧ s.regs.bg.spd.toNat ∈ s.params.speedSet ∧
           s.regs.cap.idx.toNat ≤ s.params.expected ∧ s.regs.cap.d.length = s.params.expected ∧
           ¬ (s.regs.fg.state = .dispatch ∧ 1 ≤ s.regs.kp.res.toNat ∧ s.regs.kp.res.toNat ≤ 15))))) ∧
    ((¬ ∃ t, step s = .next t) → ∃ r, step s = .refused r)

/-- R103: the scanner never produces a reserved keycode, and the dispatch of one is refused by name. -/
def Obligations.ReservedKeycodesNeverArise : Prop :=
  (∀ s t : State, step s = .next t → KeyLegal s.regs → KeyLegal t.regs) ∧
  (∀ s : State, Ready s → s.regs.fg.state = .dispatch →
    1 ≤ s.regs.kp.res.toNat → s.regs.kp.res.toNat ≤ 15 →
    step s = .refused (.reservedKeycode s.regs.kp.res))

/-! ## The keypad scanner -/

/-- R140, R141, R142: `F_CHECK` either returns "no key" without driving a row or starts the scan of row 0.
The premise on the time stamp is R31's "every subtraction `NOW - x` in this spec has `NOW ≥ x`". -/
def Obligations.DebounceCheckSuppressesOrStartsScan : Prop :=
  ∀ s : State, Ready s → s.regs.fg.state = .check →
    (s.regs.kp.valid = true → s.regs.kp.last ≤ s.regs.now) →
    ∃ t, step s = .next t ∧
      t.regs.kp.last = s.regs.kp.last ∧ t.regs.kp.valid = s.regs.kp.valid ∧
      if s.regs.kp.valid = true ∧ s.regs.now.toNat - s.regs.kp.last.toNat < s.params.debounce then
        t.regs.kp.res = 0 ∧ t.regs.out.row = s.regs.out.row ∧
        t.regs.fg = { s.regs.fg with state := .dispatch }
      else
        t.regs.kp.res = s.regs.kp.res ∧ t.regs.fg.row = 0 ∧
        (∀ i : Fin 4, t.regs.out.row.getLsbD i =
          if i = 0 then s.params.keyActive else !s.params.keyActive) ∧
        if 0 < s.params.rowSettle then
          t.regs.fg.state = .wait ∧ t.regs.fg.wcnt.toNat = s.params.rowSettle - 1
        else t.regs.fg.state = .sample ∧ t.regs.fg.wcnt = s.regs.fg.wcnt

/-- R143: `F_WAIT` counts down to the sample; the row stays driven. -/
def Obligations.RowSettleCountsDown : Prop :=
  ∀ s : State, Ready s → s.regs.fg.state = .wait →
    ∃ t, step s = .next t ∧ t.regs.kp = s.regs.kp ∧ t.regs.out.row = s.regs.out.row ∧
      t.regs.fg.row = s.regs.fg.row ∧
      if s.regs.fg.wcnt = 0 then t.regs.fg.state = .sample ∧ t.regs.fg.wcnt = s.regs.fg.wcnt
      else t.regs.fg.state = .wait ∧ t.regs.fg.wcnt.toNat = s.regs.fg.wcnt.toNat - 1

/-- R144, R145, R146, R147: `F_SAMPLE`: the lowest active column of the driven row is detected; with none
active the scan goes on to the next row, or ends with "no key" after row 3. -/
def Obligations.ColumnSampleFirstMatchWins : Prop :=
  ∀ s : State, Ready s → s.regs.fg.state = .sample →
    ∃ t, step s = .next t ∧
      (∀ c : Fin 4, s.input.col.getLsbD c = s.params.keyActive →
        (∀ c' : Fin 4, c' < c → s.input.col.getLsbD c' ≠ s.params.keyActive) →
        t.regs.kp.res.toNat = 16 + 4 * s.regs.fg.row.toNat + c.val ∧
        t.regs.kp.last = s.regs.now ∧ t.regs.kp.valid = true ∧
        (∀ i : Fin 4, t.regs.out.row.getLsbD i = !s.params.keyActive) ∧
        t.regs.fg = { s.regs.fg with state := .dispatch }) ∧
      ((∀ c : Fin 4, s.input.col.getLsbD c ≠ s.params.keyActive) →
        t.regs.kp.last = s.regs.kp.last ∧ t.regs.kp.valid = s.regs.kp.valid ∧
        if s.regs.fg.row = 3 then
          t.regs.kp.res = 0 ∧ (∀ i : Fin 4, t.regs.out.row.getLsbD i = !s.params.keyActive) ∧
          t.regs.fg = { s.regs.fg with state := .dispatch }
        else
          t.regs.kp.res = s.regs.kp.res ∧ t.regs.fg.row.toNat = s.regs.fg.row.toNat + 1 ∧
          (∀ i : Fin 4, t.regs.out.row.getLsbD i =
            if i.val = s.regs.fg.row.toNat + 1 then s.params.keyActive else !s.params.keyActive) ∧
          if 0 < s.params.rowSettle then
            t.regs.fg.state = .wait ∧ t.regs.fg.wcnt.toNat = s.params.rowSettle - 1
          else t.regs.fg.state = .sample ∧ t.regs.fg.wcnt = s.regs.fg.wcnt)

/-- R50, R153: every step keeps the rows idle outside a scan and exactly the scanned row active in one. -/
def Obligations.RowsIdleOutsideAScan : Prop :=
  ∀ s t : State, step s = .next t → RowsMatch s.params s.regs → RowsMatch t.params t.regs

/-- R149: throughout the debounce window of a detection no key is detected and no row is driven, whatever
the columns show. -/
def Obligations.DebounceWindowSuppressesEveryScan : Prop :=
  ∀ (s : State) (n : Nat), BlockInv s → (s.regs.fg.state = .check ∨ s.regs.fg.state = .dispatch) →
    s.regs.kp.valid = true → s.regs.kp.last ≤ s.regs.now → s.regs.now.toNat + n < 2 ^ 64 →
    s.regs.now.toNat - s.regs.kp.last.toNat + n ≤ s.params.debounce → QuietFor s n →
    ∃ t, run n s = .next t ∧ t.regs.kp.last = s.regs.kp.last ∧ t.regs.kp.valid = true ∧
      t.regs.out.row = idleRows s.params ∧ (t.regs.fg.state = .check ∨ t.regs.fg.state = .dispatch)

/-! ## The sensor decoder -/

/-- R171, R172: `S_RATE`: a rate-limited measurement writes nothing but BG's state; any other starts the
request, the pin driven high. The premise on the time stamp is R31's "every subtraction `NOW - x` in
this spec has `NOW ≥ x`". -/
def Obligations.RateLimiterOrRequest : Prop :=
  ∀ s t : State, s.input.rst = false → step s = .next t → s.regs.bg.state = .rate →
    (s.regs.sn.rdValid = true → s.regs.sn.lastOk ≤ s.regs.now) →
    t.regs.sn = s.regs.sn ∧ t.regs.cap = s.regs.cap ∧ t.regs.tripped = s.regs.tripped ∧
    t.regs.bg.md = s.regs.bg.md ∧ t.regs.bg.spd = s.regs.bg.spd ∧
    t.regs.disp = { s.regs.disp with wr := false } ∧
    if s.regs.sn.rdValid = true ∧ s.regs.now.toNat - s.regs.sn.lastOk.toNat < s.params.minInterval then
      t.regs.bg.state = .interlock ∧ t.regs.bg.tmr = s.regs.bg.tmr ∧
      t.regs.out.dataOe = s.regs.out.dataOe ∧ t.regs.out.dataOut = s.regs.out.dataOut
    else
      t.regs.bg.state = .high ∧ t.regs.bg.tmr.toNat = s.params.startHigh - 1 ∧
      t.regs.out.dataOe = true ∧ t.regs.out.dataOut = true

/-- R173, R174, R176: the request's high and low phases, the release of the pin and the start of the
capture. The latched mode and speed (R42), the interlock and the stored reading stay. -/
def Obligations.RequestPhases : Prop :=
  ∀ s t : State, s.input.rst = false → step s = .next t →
    (s.regs.bg.state = .high ∨ s.regs.bg.state = .low →
      t.regs.bg.md = s.regs.bg.md ∧ t.regs.bg.spd = s.regs.bg.spd ∧ t.regs.sn = s.regs.sn ∧
      t.regs.tripped = s.regs.tripped ∧ t.regs.disp = { s.regs.disp with wr := false }) ∧
    (s.regs.bg.state = .high →
      t.regs.out.dataOe = s.regs.out.dataOe ∧ t.regs.cap = s.regs.cap ∧
      if s.regs.bg.tmr = 0 then
        t.regs.bg.state = .low ∧ t.regs.bg.tmr.toNat = s.params.reqLow - 1 ∧ t.regs.out.dataOut = false
      else
        t.regs.bg.state = .high ∧ t.regs.bg.tmr.toNat = s.regs.bg.tmr.toNat - 1 ∧
        t.regs.out.dataOut = s.regs.out.dataOut) ∧
    (s.regs.bg.state = .low →
      t.regs.out.dataOut = s.regs.out.dataOut ∧
      if s.regs.bg.tmr = 0 then
        t.regs.bg.state = .cap ∧ t.regs.bg.tmr = s.regs.bg.tmr ∧ t.regs.out.dataOe = false ∧
        t.regs.cap = { d := s.regs.cap.d, val := true, idx := 0, unch := 0, ts := s.regs.now + 1,
                       overrun := false }
      else
        t.regs.bg.state = .low ∧ t.regs.bg.tmr.toNat = s.regs.bg.tmr.toNat - 1 ∧
        t.regs.out.dataOe = s.regs.out.dataOe ∧ t.regs.cap = s.regs.cap)

/-- R175: the request pulse as seen at the pin: from the cycle after a request's `S_RATE` the pin is
driven high for `P_START_HIGH` cycles, then low for `P_REQ_LOW` cycles, then it is released and the
capture begins. -/
def Obligations.RequestPulseAtThePin : Prop :=
  ∀ s : State, BlockInv s → s.regs.bg.state = .rate →
    rateLimited s.params s.regs = false →
    QuietFor s (s.params.startHigh + s.params.reqLow + 1) →
    (∀ k, k < s.params.startHigh + s.params.reqLow →
      ∃ t, run (k + 1) s = .next t ∧ t.regs.out.dataOe = true ∧
        t.regs.out.dataOut = decide (k < s.params.startHigh)) ∧
    ∃ t, run (s.params.startHigh + s.params.reqLow + 1) s = .next t ∧ t.regs.out.dataOe = false ∧
      t.regs.bg.state = .cap

/-- R177 to R180: one sample of a capture. The latched mode and speed (R42), the timer, the interlock, the
stored reading and the data pin stay. -/
def Obligations.CaptureSamplesThePin : Prop :=
  ∀ s t : State, s.input.rst = false → step s = .next t → s.regs.bg.state = .cap →
    t.regs.sn = s.regs.sn ∧ t.regs.bg.md = s.regs.bg.md ∧ t.regs.bg.spd = s.regs.bg.spd ∧
    t.regs.bg.tmr = s.regs.bg.tmr ∧ t.regs.tripped = s.regs.tripped ∧
    t.regs.disp = { s.regs.disp with wr := false } ∧
    t.regs.out.dataOe = s.regs.out.dataOe ∧ t.regs.out.dataOut = s.regs.out.dataOut ∧
    if s.input.data = s.regs.cap.val then
      t.regs.cap.d = s.regs.cap.d ∧ t.regs.cap.idx = s.regs.cap.idx ∧ t.regs.cap.ts = s.regs.cap.ts ∧
      t.regs.cap.val = s.regs.cap.val ∧ t.regs.cap.overrun = s.regs.cap.overrun ∧
      if s.regs.cap.unch.toNat = s.params.maxUnchanged - 1 then
        t.regs.bg.state = .dec ∧ t.regs.cap.unch = s.regs.cap.unch
      else t.regs.bg.state = .cap ∧ t.regs.cap.unch = s.regs.cap.unch + 1
    else if s.regs.cap.idx.toNat < s.params.expected then
      t.regs.bg.state = .cap ∧ t.regs.cap.ts = s.regs.now ∧
      t.regs.cap.idx.toNat = s.regs.cap.idx.toNat + 1 ∧ t.regs.cap.val = s.input.data ∧
      t.regs.cap.unch = 0 ∧ t.regs.cap.overrun = s.regs.cap.overrun ∧
      t.regs.cap.d.length = s.regs.cap.d.length ∧
      (∀ j, j ≠ s.regs.cap.idx.toNat →
        capRead t.regs.cap.d j = capRead s.regs.cap.d j) ∧
      (s.regs.cap.ts ≤ s.regs.now → s.regs.now.toNat - s.regs.cap.ts.toNat ≤ 255 →
        (capRead t.regs.cap.d s.regs.cap.idx.toNat).toNat = s.regs.now.toNat - s.regs.cap.ts.toNat)
    else
      t.regs.bg.state = .dec ∧ t.regs.cap = { s.regs.cap with overrun := true }

/-- R177, R186: every step keeps a capture sound: the level follows the parity of the transitions, and the
time since the last transition is bounded by the stall limit. -/
def Obligations.CaptureStaysSound : Prop :=
  ∀ s t : State, step s = .next t → CaptureSound s.params s.regs → CaptureSound t.params t.regs

/-- R186: every duration of a capture is at most `P_MAX_UNCHANGED`, the first below it. -/
def Obligations.DurationsStayBounded : Prop :=
  ∀ s t : State, step s = .next t → CaptureSound s.params s.regs →
    DurationsBounded s.params s.regs → DurationsBounded t.params t.regs

/-- R185: a capture always ends: from its start, whatever the inputs, `S_DEC` is reached within
`(P_EXPECTED + 1) · P_MAX_UNCHANGED` cycles, by default `85 · P_MAX_UNCHANGED`. -/
def Obligations.CaptureAlwaysEnds : Prop :=
  ∀ s : State, BlockInv s → s.regs.bg.state = .cap → s.regs.cap.idx = 0 → s.regs.cap.unch = 0 →
    QuietFor s ((s.params.expected + 1) * s.params.maxUnchanged) →
    ∃ n t, 1 ≤ n ∧ n ≤ (s.params.expected + 1) * s.params.maxUnchanged ∧ run n s = .next t ∧
      t.regs.bg.state = .dec ∧
      ∀ m u, m < n → run m s = .next u → u.regs.bg.state = .cap

/-- R181: bit `7 - i` of byte `k` of the decoded frame is the frame bit `8k + i`, which is 1 exactly if
`d[P_BIT_BASE + 2j]` is longer than the threshold. -/
def Obligations.FrameBitsAreThresholdedDurations : Prop :=
  ∀ (p : Params) (d : List Byte) (hp : p.bitBase + 78 < d.length) (k : Fin 5) (i : Fin 8),
    let f := decodeFrame p d
    ([f.b0, f.b1, f.b2, f.b3, f.b4][k.val]).getLsbD (7 - i.val) =
      decide (p.bitThreshold < (d[p.bitBase + 2 * (8 * k.val + i.val)]'(by omega)).toNat)

/-- R182, R183, R184, R304: the one outcome of a measurement: the count is tested first, then the
checksum; only a success stores the reading and its time. -/
def Obligations.MeasurementOutcome : Prop :=
  ∀ s t : State, s.input.rst = false → step s = .next t → s.regs.bg.state = .dec →
    let f := decodeFrame s.params s.regs.cap.d
    t.regs.bg = { s.regs.bg with state := .interlock } ∧
    t.regs.sn =
      if s.regs.cap.overrun = true ∨ s.regs.cap.idx.toNat ≠ s.params.expected then
        { s.regs.sn with status := .pulseCount }
      else if (f.b0.toNat + f.b1.toNat + f.b2.toNat + f.b3.toNat) % 256 = f.b4.toNat then
        { rdValid := true, rdHi := f.b0, rdHd := f.b1, rdTi := f.b2, rdTd := f.b3, rdCk := f.b4,
          lastOk := s.regs.now, status := .ok }
      else { s.regs.sn with status := .checksum }

/-- R256, R44, R47: the stored reading changes only at a successful decode; an error or a cached
measurement leaves it and its time as they are. -/
def Obligations.ReadingChangesOnlyOnSuccess : Prop :=
  ∀ s t : State, s.input.rst = false → step s = .next t →
    t.regs.sn ≠ s.regs.sn →
    s.regs.bg.state = .dec ∧
    (t.regs.sn.status = .ok ∨ t.regs.sn = { s.regs.sn with status := t.regs.sn.status })

/-- R188: a capture of exactly `P_EXPECTED` (84) transitions whose decoded durations exceed the threshold
exactly where the frame has a 1 stores exactly the frame's bytes, if its checksum holds. -/
def Obligations.DecodeRoundTrip : Prop :=
  ∀ (s t : State) (b0 b1 b2 b3 b4 : Byte), s.input.rst = false → step s = .next t →
    s.regs.bg.state = .dec → s.regs.cap.overrun = false →
    s.regs.cap.idx.toNat = s.params.expected →
    b0 + b1 + b2 + b3 = b4 →
    (∀ j, j < 40 → (s.params.bitThreshold < (capRead s.regs.cap.d (s.params.bitBase + 2 * j)).toNat ↔
      (b0 ++ b1 ++ b2 ++ b3 ++ b4).getLsbD (39 - j) = true)) →
    t.regs.sn = { rdValid := true, rdHi := b0, rdHd := b1, rdTi := b2, rdTd := b3, rdCk := b4,
                  lastOk := s.regs.now, status := .ok }

/-- R189: moving one decoded duration across the threshold breaks a passing checksum; moving entries that
are not decoded changes nothing. -/
def Obligations.OneFlippedDurationIsDetected : Prop :=
  ∀ (p : Params) (d d' : List Byte),
    (∀ j, j < 40 → checksumOk (decodeFrame p d) = true →
      (∀ i, i ≠ p.bitBase + 2 * j → capRead d' i = capRead d i) →
      frameBit p d' j = !frameBit p d j →
      checksumOk (decodeFrame p d') = false) ∧
    ((∀ j, j < 40 → capRead d' (p.bitBase + 2 * j) = capRead d (p.bitBase + 2 * j)) →
      decodeFrame p d' = decodeFrame p d)

/-- R190: every step keeps the data pin released outside `S_HIGH` and `S_LOW`. -/
def Obligations.DataPinDrivenOnlyInARequest : Prop :=
  ∀ s t : State, step s = .next t → PinMatch s.regs → PinMatch t.regs

/-! ## The wind engine and the interlock -/

/-- R240: `B_START` latches the mode and the speed. -/
def Obligations.IterationStartLatches : Prop :=
  ∀ s t : State, s.input.rst = false → step s = .next t → s.regs.bg.state = .start →
    t.regs.bg = { state := .rate, md := s.regs.cs.mode, spd := s.regs.cs.speed, tmr := s.regs.bg.tmr } ∧
    t.regs.tripped = s.regs.tripped ∧ t.regs.sn = s.regs.sn ∧ t.regs.cap = s.regs.cap

/-- R242, R243, R244: the interlock check. A trip forces the duty to 0, shows the warning, closes the
interlock and starts the cool-down; a pass opens it and goes on to the pattern step. -/
def Obligations.InterlockTripsOrPasses : Prop :=
  ∀ s t : State, s.input.rst = false → step s = .next t → s.regs.bg.state = .interlock →
    t.regs.sn = s.regs.sn ∧ t.regs.bg.md = s.regs.bg.md ∧ t.regs.bg.spd = s.regs.bg.spd ∧
    if s.regs.sn.rdValid = false ∨
        10 * s.regs.sn.rdTi.toNat + s.regs.sn.rdTd.toNat ≥ 10 * s.regs.cs.thr.toNat then
      t.regs.mot = { duty := 0, wr := true } ∧ t.regs.tripped = true ∧ t.regs.disp = shown s.regs true ∧
      t.regs.bg.state = .cool ∧ t.regs.bg.tmr.toNat = s.params.cooldown - 1
    else
      t.regs.tripped = false ∧ t.regs.bg.state = .pattern ∧ t.regs.bg.tmr = s.regs.bg.tmr ∧
      t.regs.disp = { s.regs.disp with wr := false }

/-- R245: the cool-down counts down and ends the iteration; it checks no mode. -/
def Obligations.CoolDownCountsDown : Prop :=
  ∀ s t : State, s.input.rst = false → step s = .next t → s.regs.bg.state = .cool →
    t.regs.tripped = s.regs.tripped ∧
    t.regs.bg = if s.regs.bg.tmr = 0 then { s.regs.bg with state := .start }
      else { s.regs.bg with tmr := s.regs.bg.tmr - 1 }

/-- R246: the pattern step. -/
def Obligations.PatternStep : Prop :=
  ∀ s t : State, s.input.rst = false → step s = .next t → s.regs.bg.state = .pattern →
    t.regs.bg.md = s.regs.bg.md ∧ t.regs.bg.spd = s.regs.bg.spd ∧ t.regs.tripped = s.regs.tripped ∧
    if s.regs.cs.mode ≠ s.regs.bg.md then
      t.regs.bg.state = .start ∧ t.regs.bg.tmr = s.regs.bg.tmr ∧
      t.regs.disp = { s.regs.disp with wr := false }
    else
      t.regs.disp = shown s.regs false ∧
      match s.regs.bg.md with
      | .unset => t.regs.bg.state = .start ∧ t.regs.bg.tmr = s.regs.bg.tmr
      | .normal =>
        t.regs.mot = { duty := dutyCode s.params s.regs.bg.spd.toNat, wr := true } ∧
        t.regs.bg.state = .start ∧ t.regs.bg.tmr = s.regs.bg.tmr
      | .natural =>
        t.regs.mot = { duty := dutyCode s.params s.regs.bg.spd.toNat, wr := true } ∧
        t.regs.bg.state = .dwellOn ∧ t.regs.bg.tmr.toNat = s.params.dwellNatural - 1
      | .sleep =>
        t.regs.mot = { duty := dutyCode s.params s.regs.bg.spd.toNat, wr := true } ∧
        t.regs.bg.state = .dwellOn ∧ t.regs.bg.tmr.toNat = s.params.dwellSleep - 1

/-- R248, R249, R250: the dwells and the OFF step of Natural and Sleep: a mode change aborts, in priority
over the timer, and writes no duty of BG's. -/
def Obligations.DwellsAndOffStep : Prop :=
  ∀ s t : State, s.input.rst = false → step s = .next t → DwellMode s.regs →
    (s.regs.bg.state = .dwellOn →
      t.regs.bg = if s.regs.cs.mode ≠ s.regs.bg.md then { s.regs.bg with state := .start }
        else if s.regs.bg.tmr = 0 then { s.regs.bg with state := .off }
        else { s.regs.bg with tmr := s.regs.bg.tmr - 1 }) ∧
    (s.regs.bg.state = .off →
      t.regs.bg.md = s.regs.bg.md ∧ t.regs.bg.spd = s.regs.bg.spd ∧
      if s.regs.cs.mode ≠ s.regs.bg.md then
        t.regs.bg.state = .start ∧ t.regs.bg.tmr = s.regs.bg.tmr ∧
        t.regs.disp = { s.regs.disp with wr := false }
      else
        t.regs.mot = { duty := 0, wr := true } ∧ t.regs.disp = shown s.regs false ∧
        t.regs.bg.state = .dwellOff ∧ t.regs.bg.tmr.toNat = dwellLength s.params s.regs.bg.md - 1) ∧
    (s.regs.bg.state = .dwellOff →
      t.regs.bg = if s.regs.cs.mode ≠ s.regs.bg.md then { s.regs.bg with state := .start }
        else if s.regs.bg.tmr = 0 then { s.regs.bg with state := .start }
        else { s.regs.bg with tmr := s.regs.bg.tmr - 1 })

/-- R89, R255: a `SET_MODE` to a new mode dispatched during a dwell makes BG leave it: `B_START` is
occupied two cycles later. -/
def Obligations.ModeChangeLeavesADwell : Prop :=
  ∀ (s : State) (m : Mode), BlockInv s → QuietFor s 2 →
    dispatchedAction s = some (.setMode m) → m ≠ s.regs.bg.md → s.regs.cs.mode = s.regs.bg.md →
    (s.regs.bg.state = .dwellOn ∨ (s.regs.bg.state = .dwellOff ∧ s.regs.bg.tmr ≠ 0)) →
    ∃ t, run 2 s = .next t ∧ t.regs.bg.state = .start ∧ t.regs.cs.mode = m

/-- R252: from a Natural or Sleep pattern step, with no mode change, the ON duty is on the motor for
`DW + 1` cycles and 0 follows. -/
def Obligations.OnStepLastsTheDwell : Prop :=
  ∀ s : State, BlockInv s → patternAt s.regs = true →
    (s.regs.bg.md = .natural ∨ s.regs.bg.md = .sleep) →
    QuietFor s (dwellLength s.params s.regs.bg.md + 2) →
    (∀ j u, j ≤ dwellLength s.params s.regs.bg.md + 1 → run j s = .next u →
      u.regs.cs.mode = s.regs.bg.md) →
    (∀ j, 1 ≤ j → j ≤ dwellLength s.params s.regs.bg.md + 1 →
      ∃ u, run j s = .next u ∧ u.regs.mot.duty = dutyCode s.params s.regs.bg.spd.toNat) ∧
    ∃ u, run (dwellLength s.params s.regs.bg.md + 2) s = .next u ∧ u.regs.mot.duty = 0 ∧
      u.regs.bg.state = .dwellOff

/-- R43, R55: the interlock flag is set only by a trip and cleared only by a passing check. -/
def Obligations.InterlockFlagChangesOnlyAtTheCheck : Prop :=
  ∀ s t : State, s.input.rst = false → step s = .next t →
    t.regs.tripped = if tripsAt s.regs then true else if passesAt s.regs then false else s.regs.tripped

/-- R254, the interlock's safety as an invariant of every step: while the interlock is closed the motor's
duty is 0. -/
def Obligations.InterlockHoldsTheMotor : Prop :=
  ∀ s t : State, step s = .next t → InterlockHeld s.regs → InterlockHeld t.regs

/-- R254: after a trip the duty is 0 and the interlock closed up to the next passing check, however long the
measurements before it take and however often the check trips again, and the duty is still 0 in the cycle
after that check; and no check comes before `P_COOLDOWN + 3` cycles after the trip. -/
def Obligations.TripHoldsThroughTheCoolDown : Prop :=
  ∀ s : State, BlockInv s → tripsAt s.regs = true →
    (∀ j, 1 ≤ j → QuietFor s j →
      (∀ k u, 1 ≤ k → k < j → run k s = .next u → passesAt u.regs = false) →
      ∃ t, run j s = .next t ∧ t.regs.mot.duty = 0 ∧ t.regs.tripped = true ∧
        (QuietFor s (j + 1) → ∃ u, run (j + 1) s = .next u ∧ u.regs.mot.duty = 0)) ∧
    (∀ j, 1 ≤ j → j < s.params.cooldown + 3 → QuietFor s j →
      ∃ t, run j s = .next t ∧ t.regs.bg.state ≠ .interlock)

/-- R257: every iteration returns to `B_START`, whatever the inputs. The bound is the rule's with
`P_EXPECTED + 1` for 85 and the longer of the two dwells for `P_DWELL_SLEEP`, since R7 does not order
them. -/
def Obligations.EveryIterationEnds : Prop :=
  ∀ s : State, BlockInv s → s.regs.bg.state = .start →
    let bound := 1 + (2 + s.params.startHigh + s.params.reqLow +
      (s.params.expected + 1) * s.params.maxUnchanged) + 1 +
      max s.params.cooldown (2 + 2 * max s.params.dwellNatural s.params.dwellSleep)
    QuietFor s bound →
    ∃ n t, 1 ≤ n ∧ n ≤ bound ∧ run n s = .next t ∧ t.regs.bg.state = .start

/-! ## The whole block -/

/-- R289: every step keeps the motor's duty the duty code of a legal percent; with the default speed set and
scale these are the five codes. -/
def Obligations.MotorCarriesOnlyTheFiveCodes : Prop :=
  (∀ s t : State, step s = .next t → DutyLegal s.params s.regs → DutyLegal t.params t.regs) ∧
  (∀ (p : Params) (r : Regs), p.speedSet = [0, 30, 60, 80, 100] → p.dutyFull = 65535 →
    (DutyLegal p r ↔ r.mot.duty ∈ [(0 : Duty), 19660, 39321, 52428, 65535]))

/-- The invariant of the block (R50, R103, R175, R177, R186, R249, R254, R289, R316 together; the domain of
`BG.spd` is the model's reading, log entry 11) is kept by every step, and in a state that has it every
step completes. -/
def Obligations.EveryStepKeepsTheInvariant : Prop :=
  ∀ s : State, BlockInv s → ∃ t, step s = .next t ∧ BlockInv t

/-- The reset state of every well-formed parameter set has the invariant; and so has the model's reset
state, whose values of the OPEN parameters are the model's choice (log entry 2). -/
def Obligations.ResetHasTheInvariant : Prop :=
  (∀ p : Params, paramsWf p = true → BlockInv (State.resetWith p)) ∧ BlockInv State.reset

/-- R35, R191: agent BG's registers after a cycle do not depend on the keypad: not on FG's state, not on
the scanner's registers, not on the columns. -/
def Obligations.BackgroundIgnoresTheKeypad : Prop :=
  ∀ s₁ s₂ t₁ t₂ : State, s₁.input.rst = false → s₂.input.rst = false →
    step s₁ = .next t₁ → step s₂ = .next t₂ →
    s₁.params = s₂.params → s₁.envCycle = s₂.envCycle → s₁.input.data = s₂.input.data →
    s₁.regs.now = s₂.regs.now → s₁.regs.cs = s₂.regs.cs → s₁.regs.bg = s₂.regs.bg →
    s₁.regs.tripped = s₂.regs.tripped → s₁.regs.sn = s₂.regs.sn → s₁.regs.cap = s₂.regs.cap →
    s₁.regs.out.dataOe = s₂.regs.out.dataOe → s₁.regs.out.dataOut = s₂.regs.out.dataOut →
    s₁.regs.disp = s₂.regs.disp →
    t₁.regs.bg = t₂.regs.bg ∧ t₁.regs.tripped = t₂.regs.tripped ∧ t₁.regs.sn = t₂.regs.sn ∧
    t₁.regs.cap = t₂.regs.cap ∧ t₁.regs.out.dataOe = t₂.regs.out.dataOe ∧
    t₁.regs.out.dataOut = t₂.regs.out.dataOut ∧ t₁.regs.disp = t₂.regs.disp ∧
    t₁.regs.now = t₂.regs.now

/-- R35, R226: agent FG's registers after a cycle do not depend on the sensor or on what BG is doing: a
dispatch or a scan is never held up by a measurement, a dwell or a cool-down. -/
def Obligations.ForegroundIgnoresTheEngine : Prop :=
  ∀ s₁ s₂ t₁ t₂ : State, s₁.input.rst = false → s₂.input.rst = false →
    step s₁ = .next t₁ → step s₂ = .next t₂ →
    s₁.params = s₂.params → s₁.input.col = s₂.input.col →
    s₁.regs.now = s₂.regs.now → s₁.regs.cs = s₂.regs.cs → s₁.regs.fg = s₂.regs.fg →
    s₁.regs.kp = s₂.regs.kp → s₁.regs.out.row = s₂.regs.out.row →
    t₁.regs.cs = t₂.regs.cs ∧ t₁.regs.fg = t₂.regs.fg ∧ t₁.regs.kp = t₂.regs.kp ∧
    t₁.regs.out.row = t₂.regs.out.row

/-- R42, R43, R45 to R47, R49, R51, R190: BG's registers change only in the states the spec names as their
writers: the latched mode and speed only in `B_START`, the capture only in `S_LOW` and `S_CAP`, the stored
reading and its status only in `S_DEC`, the interlock flag only in `B_INTERLOCK`, the data pin only in
`S_RATE`, `S_HIGH` and `S_LOW`. -/
def Obligations.BackgroundRegistersChangeOnlyInTheirStates : Prop :=
  ∀ s t : State, s.input.rst = false → step s = .next t →
    (s.regs.bg.state ≠ .start → t.regs.bg.md = s.regs.bg.md ∧ t.regs.bg.spd = s.regs.bg.spd) ∧
    (s.regs.bg.state ≠ .low → s.regs.bg.state ≠ .cap → t.regs.cap = s.regs.cap) ∧
    (s.regs.bg.state ≠ .dec → t.regs.sn = s.regs.sn) ∧
    (s.regs.bg.state ≠ .interlock → t.regs.tripped = s.regs.tripped) ∧
    (s.regs.bg.state ≠ .rate → s.regs.bg.state ≠ .high → s.regs.bg.state ≠ .low →
      t.regs.out.dataOe = s.regs.out.dataOe ∧ t.regs.out.dataOut = s.regs.out.dataOut)
end

