-- ==== Sys2Proof/Laws/State.lean ====
section
/-! SUPPORT. One lemma per field per update of the registers and of the state, each true by `rfl`, so
that no later proof unfolds an update. -/

namespace Sys2Proof.Machine

/-! ### `Regs.fgGoto` -/

@[simp] theorem Regs.fgGoto_now (r : Regs) (x : FgState) : (r.fgGoto x).now = r.now := rfl
@[simp] theorem Regs.fgGoto_cs (r : Regs) (x : FgState) : (r.fgGoto x).cs = r.cs := rfl
@[simp] theorem Regs.fgGoto_fg (r : Regs) (x : FgState) : (r.fgGoto x).fg = { r.fg with state := x } := rfl
@[simp] theorem Regs.fgGoto_kp (r : Regs) (x : FgState) : (r.fgGoto x).kp = r.kp := rfl
@[simp] theorem Regs.fgGoto_bg (r : Regs) (x : FgState) : (r.fgGoto x).bg = r.bg := rfl
@[simp] theorem Regs.fgGoto_tripped (r : Regs) (x : FgState) : (r.fgGoto x).tripped = r.tripped := rfl
@[simp] theorem Regs.fgGoto_sn (r : Regs) (x : FgState) : (r.fgGoto x).sn = r.sn := rfl
@[simp] theorem Regs.fgGoto_cap (r : Regs) (x : FgState) : (r.fgGoto x).cap = r.cap := rfl
@[simp] theorem Regs.fgGoto_out (r : Regs) (x : FgState) : (r.fgGoto x).out = r.out := rfl
@[simp] theorem Regs.fgGoto_mot (r : Regs) (x : FgState) : (r.fgGoto x).mot = r.mot := rfl
@[simp] theorem Regs.fgGoto_en (r : Regs) (x : FgState) : (r.fgGoto x).en = r.en := rfl
@[simp] theorem Regs.fgGoto_disp (r : Regs) (x : FgState) : (r.fgGoto x).disp = r.disp := rfl

/-! ### `Regs.bgGoto` -/

@[simp] theorem Regs.bgGoto_now (r : Regs) (x : BgState) : (r.bgGoto x).now = r.now := rfl
@[simp] theorem Regs.bgGoto_cs (r : Regs) (x : BgState) : (r.bgGoto x).cs = r.cs := rfl
@[simp] theorem Regs.bgGoto_fg (r : Regs) (x : BgState) : (r.bgGoto x).fg = r.fg := rfl
@[simp] theorem Regs.bgGoto_kp (r : Regs) (x : BgState) : (r.bgGoto x).kp = r.kp := rfl
@[simp] theorem Regs.bgGoto_bg (r : Regs) (x : BgState) : (r.bgGoto x).bg = { r.bg with state := x } := rfl
@[simp] theorem Regs.bgGoto_tripped (r : Regs) (x : BgState) : (r.bgGoto x).tripped = r.tripped := rfl
@[simp] theorem Regs.bgGoto_sn (r : Regs) (x : BgState) : (r.bgGoto x).sn = r.sn := rfl
@[simp] theorem Regs.bgGoto_cap (r : Regs) (x : BgState) : (r.bgGoto x).cap = r.cap := rfl
@[simp] theorem Regs.bgGoto_out (r : Regs) (x : BgState) : (r.bgGoto x).out = r.out := rfl
@[simp] theorem Regs.bgGoto_mot (r : Regs) (x : BgState) : (r.bgGoto x).mot = r.mot := rfl
@[simp] theorem Regs.bgGoto_en (r : Regs) (x : BgState) : (r.bgGoto x).en = r.en := rfl
@[simp] theorem Regs.bgGoto_disp (r : Regs) (x : BgState) : (r.bgGoto x).disp = r.disp := rfl

/-! ### `Regs.setTimer` -/

@[simp] theorem Regs.setTimer_now (r : Regs) (v : BitVec 24) : (r.setTimer v).now = r.now := rfl
@[simp] theorem Regs.setTimer_cs (r : Regs) (v : BitVec 24) : (r.setTimer v).cs = r.cs := rfl
@[simp] theorem Regs.setTimer_fg (r : Regs) (v : BitVec 24) : (r.setTimer v).fg = r.fg := rfl
@[simp] theorem Regs.setTimer_kp (r : Regs) (v : BitVec 24) : (r.setTimer v).kp = r.kp := rfl
@[simp] theorem Regs.setTimer_bg (r : Regs) (v : BitVec 24) : (r.setTimer v).bg = { r.bg with tmr := v } := rfl
@[simp] theorem Regs.setTimer_tripped (r : Regs) (v : BitVec 24) : (r.setTimer v).tripped = r.tripped := rfl
@[simp] theorem Regs.setTimer_sn (r : Regs) (v : BitVec 24) : (r.setTimer v).sn = r.sn := rfl
@[simp] theorem Regs.setTimer_cap (r : Regs) (v : BitVec 24) : (r.setTimer v).cap = r.cap := rfl
@[simp] theorem Regs.setTimer_out (r : Regs) (v : BitVec 24) : (r.setTimer v).out = r.out := rfl
@[simp] theorem Regs.setTimer_mot (r : Regs) (v : BitVec 24) : (r.setTimer v).mot = r.mot := rfl
@[simp] theorem Regs.setTimer_en (r : Regs) (v : BitVec 24) : (r.setTimer v).en = r.en := rfl
@[simp] theorem Regs.setTimer_disp (r : Regs) (v : BitVec 24) : (r.setTimer v).disp = r.disp := rfl

/-! ### `Regs.tickTimer` -/

@[simp] theorem Regs.tickTimer_now (r : Regs) : (r.tickTimer).now = r.now := rfl
@[simp] theorem Regs.tickTimer_cs (r : Regs) : (r.tickTimer).cs = r.cs := rfl
@[simp] theorem Regs.tickTimer_fg (r : Regs) : (r.tickTimer).fg = r.fg := rfl
@[simp] theorem Regs.tickTimer_kp (r : Regs) : (r.tickTimer).kp = r.kp := rfl
@[simp] theorem Regs.tickTimer_bg (r : Regs) : (r.tickTimer).bg = { r.bg with tmr := r.bg.tmr - 1 } := rfl
@[simp] theorem Regs.tickTimer_tripped (r : Regs) : (r.tickTimer).tripped = r.tripped := rfl
@[simp] theorem Regs.tickTimer_sn (r : Regs) : (r.tickTimer).sn = r.sn := rfl
@[simp] theorem Regs.tickTimer_cap (r : Regs) : (r.tickTimer).cap = r.cap := rfl
@[simp] theorem Regs.tickTimer_out (r : Regs) : (r.tickTimer).out = r.out := rfl
@[simp] theorem Regs.tickTimer_mot (r : Regs) : (r.tickTimer).mot = r.mot := rfl
@[simp] theorem Regs.tickTimer_en (r : Regs) : (r.tickTimer).en = r.en := rfl
@[simp] theorem Regs.tickTimer_disp (r : Regs) : (r.tickTimer).disp = r.disp := rfl

/-! ### `Regs.writeDuty` -/

@[simp] theorem Regs.writeDuty_now (r : Regs) (v : Duty) : (r.writeDuty v).now = r.now := rfl
@[simp] theorem Regs.writeDuty_cs (r : Regs) (v : Duty) : (r.writeDuty v).cs = r.cs := rfl
@[simp] theorem Regs.writeDuty_fg (r : Regs) (v : Duty) : (r.writeDuty v).fg = r.fg := rfl
@[simp] theorem Regs.writeDuty_kp (r : Regs) (v : Duty) : (r.writeDuty v).kp = r.kp := rfl
@[simp] theorem Regs.writeDuty_bg (r : Regs) (v : Duty) : (r.writeDuty v).bg = r.bg := rfl
@[simp] theorem Regs.writeDuty_tripped (r : Regs) (v : Duty) : (r.writeDuty v).tripped = r.tripped := rfl
@[simp] theorem Regs.writeDuty_sn (r : Regs) (v : Duty) : (r.writeDuty v).sn = r.sn := rfl
@[simp] theorem Regs.writeDuty_cap (r : Regs) (v : Duty) : (r.writeDuty v).cap = r.cap := rfl
@[simp] theorem Regs.writeDuty_out (r : Regs) (v : Duty) : (r.writeDuty v).out = r.out := rfl
@[simp] theorem Regs.writeDuty_mot (r : Regs) (v : Duty) : (r.writeDuty v).mot = { duty := v, wr := true } := rfl
@[simp] theorem Regs.writeDuty_en (r : Regs) (v : Duty) : (r.writeDuty v).en = r.en := rfl
@[simp] theorem Regs.writeDuty_disp (r : Regs) (v : Duty) : (r.writeDuty v).disp = r.disp := rfl

/-! ### `Regs.refresh` -/

@[simp] theorem Regs.refresh_now (r : Regs) (w : Bool) : (r.refresh w).now = r.now := rfl
@[simp] theorem Regs.refresh_cs (r : Regs) (w : Bool) : (r.refresh w).cs = r.cs := rfl
@[simp] theorem Regs.refresh_fg (r : Regs) (w : Bool) : (r.refresh w).fg = r.fg := rfl
@[simp] theorem Regs.refresh_kp (r : Regs) (w : Bool) : (r.refresh w).kp = r.kp := rfl
@[simp] theorem Regs.refresh_bg (r : Regs) (w : Bool) : (r.refresh w).bg = r.bg := rfl
@[simp] theorem Regs.refresh_tripped (r : Regs) (w : Bool) : (r.refresh w).tripped = r.tripped := rfl
@[simp] theorem Regs.refresh_sn (r : Regs) (w : Bool) : (r.refresh w).sn = r.sn := rfl
@[simp] theorem Regs.refresh_cap (r : Regs) (w : Bool) : (r.refresh w).cap = r.cap := rfl
@[simp] theorem Regs.refresh_out (r : Regs) (w : Bool) : (r.refresh w).out = r.out := rfl
@[simp] theorem Regs.refresh_mot (r : Regs) (w : Bool) : (r.refresh w).mot = r.mot := rfl
@[simp] theorem Regs.refresh_en (r : Regs) (w : Bool) : (r.refresh w).en = r.en := rfl
@[simp] theorem Regs.refresh_disp (r : Regs) (w : Bool) : (r.refresh w).disp = 
      { speed := r.cs.speed, mode := r.cs.mode, thr := r.cs.thr, tValid := r.sn.rdValid,
        hi := r.sn.rdHi, hd := r.sn.rdHd, ti := r.sn.rdTi, td := r.sn.rdTd,
        status := r.sn.status, warn := w, wr := true } := rfl

/-! ### `Regs.setTripped` -/

@[simp] theorem Regs.setTripped_now (r : Regs) (b : Bool) : (r.setTripped b).now = r.now := rfl
@[simp] theorem Regs.setTripped_cs (r : Regs) (b : Bool) : (r.setTripped b).cs = r.cs := rfl
@[simp] theorem Regs.setTripped_fg (r : Regs) (b : Bool) : (r.setTripped b).fg = r.fg := rfl
@[simp] theorem Regs.setTripped_kp (r : Regs) (b : Bool) : (r.setTripped b).kp = r.kp := rfl
@[simp] theorem Regs.setTripped_bg (r : Regs) (b : Bool) : (r.setTripped b).bg = r.bg := rfl
@[simp] theorem Regs.setTripped_tripped (r : Regs) (b : Bool) : (r.setTripped b).tripped = b := rfl
@[simp] theorem Regs.setTripped_sn (r : Regs) (b : Bool) : (r.setTripped b).sn = r.sn := rfl
@[simp] theorem Regs.setTripped_cap (r : Regs) (b : Bool) : (r.setTripped b).cap = r.cap := rfl
@[simp] theorem Regs.setTripped_out (r : Regs) (b : Bool) : (r.setTripped b).out = r.out := rfl
@[simp] theorem Regs.setTripped_mot (r : Regs) (b : Bool) : (r.setTripped b).mot = r.mot := rfl
@[simp] theorem Regs.setTripped_en (r : Regs) (b : Bool) : (r.setTripped b).en = r.en := rfl
@[simp] theorem Regs.setTripped_disp (r : Regs) (b : Bool) : (r.setTripped b).disp = r.disp := rfl

/-! ### `Regs.driveRows` -/

@[simp] theorem Regs.driveRows_now (r : Regs) (v : BitVec 4) : (r.driveRows v).now = r.now := rfl
@[simp] theorem Regs.driveRows_cs (r : Regs) (v : BitVec 4) : (r.driveRows v).cs = r.cs := rfl
@[simp] theorem Regs.driveRows_fg (r : Regs) (v : BitVec 4) : (r.driveRows v).fg = r.fg := rfl
@[simp] theorem Regs.driveRows_kp (r : Regs) (v : BitVec 4) : (r.driveRows v).kp = r.kp := rfl
@[simp] theorem Regs.driveRows_bg (r : Regs) (v : BitVec 4) : (r.driveRows v).bg = r.bg := rfl
@[simp] theorem Regs.driveRows_tripped (r : Regs) (v : BitVec 4) : (r.driveRows v).tripped = r.tripped := rfl
@[simp] theorem Regs.driveRows_sn (r : Regs) (v : BitVec 4) : (r.driveRows v).sn = r.sn := rfl
@[simp] theorem Regs.driveRows_cap (r : Regs) (v : BitVec 4) : (r.driveRows v).cap = r.cap := rfl
@[simp] theorem Regs.driveRows_out (r : Regs) (v : BitVec 4) : (r.driveRows v).out = { r.out with row := v } := rfl
@[simp] theorem Regs.driveRows_mot (r : Regs) (v : BitVec 4) : (r.driveRows v).mot = r.mot := rfl
@[simp] theorem Regs.driveRows_en (r : Regs) (v : BitVec 4) : (r.driveRows v).en = r.en := rfl
@[simp] theorem Regs.driveRows_disp (r : Regs) (v : BitVec 4) : (r.driveRows v).disp = r.disp := rfl

/-! ### `Regs.driveData` -/

@[simp] theorem Regs.driveData_now (r : Regs) (oe v : Bool) : (r.driveData oe v).now = r.now := rfl
@[simp] theorem Regs.driveData_cs (r : Regs) (oe v : Bool) : (r.driveData oe v).cs = r.cs := rfl
@[simp] theorem Regs.driveData_fg (r : Regs) (oe v : Bool) : (r.driveData oe v).fg = r.fg := rfl
@[simp] theorem Regs.driveData_kp (r : Regs) (oe v : Bool) : (r.driveData oe v).kp = r.kp := rfl
@[simp] theorem Regs.driveData_bg (r : Regs) (oe v : Bool) : (r.driveData oe v).bg = r.bg := rfl
@[simp] theorem Regs.driveData_tripped (r : Regs) (oe v : Bool) : (r.driveData oe v).tripped = r.tripped := rfl
@[simp] theorem Regs.driveData_sn (r : Regs) (oe v : Bool) : (r.driveData oe v).sn = r.sn := rfl
@[simp] theorem Regs.driveData_cap (r : Regs) (oe v : Bool) : (r.driveData oe v).cap = r.cap := rfl
@[simp] theorem Regs.driveData_out (r : Regs) (oe v : Bool) : (r.driveData oe v).out = { r.out with dataOe := oe, dataOut := v } := rfl
@[simp] theorem Regs.driveData_mot (r : Regs) (oe v : Bool) : (r.driveData oe v).mot = r.mot := rfl
@[simp] theorem Regs.driveData_en (r : Regs) (oe v : Bool) : (r.driveData oe v).en = r.en := rfl
@[simp] theorem Regs.driveData_disp (r : Regs) (oe v : Bool) : (r.driveData oe v).disp = r.disp := rfl

/-! ### `Regs.setResult` -/

@[simp] theorem Regs.setResult_now (r : Regs) (k : KeyWord) : (r.setResult k).now = r.now := rfl
@[simp] theorem Regs.setResult_cs (r : Regs) (k : KeyWord) : (r.setResult k).cs = r.cs := rfl
@[simp] theorem Regs.setResult_fg (r : Regs) (k : KeyWord) : (r.setResult k).fg = r.fg := rfl
@[simp] theorem Regs.setResult_kp (r : Regs) (k : KeyWord) : (r.setResult k).kp = { r.kp with res := k } := rfl
@[simp] theorem Regs.setResult_bg (r : Regs) (k : KeyWord) : (r.setResult k).bg = r.bg := rfl
@[simp] theorem Regs.setResult_tripped (r : Regs) (k : KeyWord) : (r.setResult k).tripped = r.tripped := rfl
@[simp] theorem Regs.setResult_sn (r : Regs) (k : KeyWord) : (r.setResult k).sn = r.sn := rfl
@[simp] theorem Regs.setResult_cap (r : Regs) (k : KeyWord) : (r.setResult k).cap = r.cap := rfl
@[simp] theorem Regs.setResult_out (r : Regs) (k : KeyWord) : (r.setResult k).out = r.out := rfl
@[simp] theorem Regs.setResult_mot (r : Regs) (k : KeyWord) : (r.setResult k).mot = r.mot := rfl
@[simp] theorem Regs.setResult_en (r : Regs) (k : KeyWord) : (r.setResult k).en = r.en := rfl
@[simp] theorem Regs.setResult_disp (r : Regs) (k : KeyWord) : (r.setResult k).disp = r.disp := rfl

/-! ### `Regs.report` -/

@[simp] theorem Regs.report_now (r : Regs) (e : Status) : (r.report e).now = r.now := rfl
@[simp] theorem Regs.report_cs (r : Regs) (e : Status) : (r.report e).cs = r.cs := rfl
@[simp] theorem Regs.report_fg (r : Regs) (e : Status) : (r.report e).fg = r.fg := rfl
@[simp] theorem Regs.report_kp (r : Regs) (e : Status) : (r.report e).kp = r.kp := rfl
@[simp] theorem Regs.report_bg (r : Regs) (e : Status) : (r.report e).bg = r.bg := rfl
@[simp] theorem Regs.report_tripped (r : Regs) (e : Status) : (r.report e).tripped = r.tripped := rfl
@[simp] theorem Regs.report_sn (r : Regs) (e : Status) : (r.report e).sn = { r.sn with status := e } := rfl
@[simp] theorem Regs.report_cap (r : Regs) (e : Status) : (r.report e).cap = r.cap := rfl
@[simp] theorem Regs.report_out (r : Regs) (e : Status) : (r.report e).out = r.out := rfl
@[simp] theorem Regs.report_mot (r : Regs) (e : Status) : (r.report e).mot = r.mot := rfl
@[simp] theorem Regs.report_en (r : Regs) (e : Status) : (r.report e).en = r.en := rfl
@[simp] theorem Regs.report_disp (r : Regs) (e : Status) : (r.report e).disp = r.disp := rfl

/-! ### `Regs.clearStrobes` -/

@[simp] theorem Regs.clearStrobes_now (r : Regs) : (r.clearStrobes).now = r.now := rfl
@[simp] theorem Regs.clearStrobes_cs (r : Regs) : (r.clearStrobes).cs = r.cs := rfl
@[simp] theorem Regs.clearStrobes_fg (r : Regs) : (r.clearStrobes).fg = r.fg := rfl
@[simp] theorem Regs.clearStrobes_kp (r : Regs) : (r.clearStrobes).kp = r.kp := rfl
@[simp] theorem Regs.clearStrobes_bg (r : Regs) : (r.clearStrobes).bg = r.bg := rfl
@[simp] theorem Regs.clearStrobes_tripped (r : Regs) : (r.clearStrobes).tripped = r.tripped := rfl
@[simp] theorem Regs.clearStrobes_sn (r : Regs) : (r.clearStrobes).sn = r.sn := rfl
@[simp] theorem Regs.clearStrobes_cap (r : Regs) : (r.clearStrobes).cap = r.cap := rfl
@[simp] theorem Regs.clearStrobes_out (r : Regs) : (r.clearStrobes).out = r.out := rfl
@[simp] theorem Regs.clearStrobes_mot (r : Regs) : (r.clearStrobes).mot = { r.mot with wr := false } := rfl
@[simp] theorem Regs.clearStrobes_en (r : Regs) : (r.clearStrobes).en = r.en := rfl
@[simp] theorem Regs.clearStrobes_disp (r : Regs) : (r.clearStrobes).disp = { r.disp with wr := false } := rfl

/-! ### `Regs.setSpeed` -/

@[simp] theorem Regs.setSpeed_now (r : Regs) (v : BitVec 7) : (r.setSpeed v).now = r.now := rfl
@[simp] theorem Regs.setSpeed_cs (r : Regs) (v : BitVec 7) : (r.setSpeed v).cs = { r.cs with speed := v } := rfl
@[simp] theorem Regs.setSpeed_fg (r : Regs) (v : BitVec 7) : (r.setSpeed v).fg = r.fg := rfl
@[simp] theorem Regs.setSpeed_kp (r : Regs) (v : BitVec 7) : (r.setSpeed v).kp = r.kp := rfl
@[simp] theorem Regs.setSpeed_bg (r : Regs) (v : BitVec 7) : (r.setSpeed v).bg = r.bg := rfl
@[simp] theorem Regs.setSpeed_tripped (r : Regs) (v : BitVec 7) : (r.setSpeed v).tripped = r.tripped := rfl
@[simp] theorem Regs.setSpeed_sn (r : Regs) (v : BitVec 7) : (r.setSpeed v).sn = r.sn := rfl
@[simp] theorem Regs.setSpeed_cap (r : Regs) (v : BitVec 7) : (r.setSpeed v).cap = r.cap := rfl
@[simp] theorem Regs.setSpeed_out (r : Regs) (v : BitVec 7) : (r.setSpeed v).out = r.out := rfl
@[simp] theorem Regs.setSpeed_mot (r : Regs) (v : BitVec 7) : (r.setSpeed v).mot = r.mot := rfl
@[simp] theorem Regs.setSpeed_en (r : Regs) (v : BitVec 7) : (r.setSpeed v).en = r.en := rfl
@[simp] theorem Regs.setSpeed_disp (r : Regs) (v : BitVec 7) : (r.setSpeed v).disp = r.disp := rfl

/-! ### `Regs.setMode` -/

@[simp] theorem Regs.setMode_now (r : Regs) (m : Mode) : (r.setMode m).now = r.now := rfl
@[simp] theorem Regs.setMode_cs (r : Regs) (m : Mode) : (r.setMode m).cs = { r.cs with mode := m } := rfl
@[simp] theorem Regs.setMode_fg (r : Regs) (m : Mode) : (r.setMode m).fg = r.fg := rfl
@[simp] theorem Regs.setMode_kp (r : Regs) (m : Mode) : (r.setMode m).kp = r.kp := rfl
@[simp] theorem Regs.setMode_bg (r : Regs) (m : Mode) : (r.setMode m).bg = r.bg := rfl
@[simp] theorem Regs.setMode_tripped (r : Regs) (m : Mode) : (r.setMode m).tripped = r.tripped := rfl
@[simp] theorem Regs.setMode_sn (r : Regs) (m : Mode) : (r.setMode m).sn = r.sn := rfl
@[simp] theorem Regs.setMode_cap (r : Regs) (m : Mode) : (r.setMode m).cap = r.cap := rfl
@[simp] theorem Regs.setMode_out (r : Regs) (m : Mode) : (r.setMode m).out = r.out := rfl
@[simp] theorem Regs.setMode_mot (r : Regs) (m : Mode) : (r.setMode m).mot = r.mot := rfl
@[simp] theorem Regs.setMode_en (r : Regs) (m : Mode) : (r.setMode m).en = r.en := rfl
@[simp] theorem Regs.setMode_disp (r : Regs) (m : Mode) : (r.setMode m).disp = r.disp := rfl

/-! ### `Regs.setThr` -/

@[simp] theorem Regs.setThr_now (r : Regs) (t : Byte) : (r.setThr t).now = r.now := rfl
@[simp] theorem Regs.setThr_cs (r : Regs) (t : Byte) : (r.setThr t).cs = { r.cs with thr := t } := rfl
@[simp] theorem Regs.setThr_fg (r : Regs) (t : Byte) : (r.setThr t).fg = r.fg := rfl
@[simp] theorem Regs.setThr_kp (r : Regs) (t : Byte) : (r.setThr t).kp = r.kp := rfl
@[simp] theorem Regs.setThr_bg (r : Regs) (t : Byte) : (r.setThr t).bg = r.bg := rfl
@[simp] theorem Regs.setThr_tripped (r : Regs) (t : Byte) : (r.setThr t).tripped = r.tripped := rfl
@[simp] theorem Regs.setThr_sn (r : Regs) (t : Byte) : (r.setThr t).sn = r.sn := rfl
@[simp] theorem Regs.setThr_cap (r : Regs) (t : Byte) : (r.setThr t).cap = r.cap := rfl
@[simp] theorem Regs.setThr_out (r : Regs) (t : Byte) : (r.setThr t).out = r.out := rfl
@[simp] theorem Regs.setThr_mot (r : Regs) (t : Byte) : (r.setThr t).mot = r.mot := rfl
@[simp] theorem Regs.setThr_en (r : Regs) (t : Byte) : (r.setThr t).en = r.en := rfl
@[simp] theorem Regs.setThr_disp (r : Regs) (t : Byte) : (r.setThr t).disp = r.disp := rfl

/-! ### Updates of the state -/

@[simp] theorem State.onRegs_params (s : State) (f : Regs → Regs) : (s.onRegs f).params = s.params := rfl
@[simp] theorem State.onRegs_regs (s : State) (f : Regs → Regs) : (s.onRegs f).regs = f s.regs := rfl
@[simp] theorem State.onRegs_env (s : State) (f : Regs → Regs) : (s.onRegs f).env = s.env := rfl
@[simp] theorem State.onRegs_envCycle (s : State) (f : Regs → Regs) : (s.onRegs f).envCycle = s.envCycle := rfl
@[simp] theorem State.onRegs_input (s : State) (f : Regs → Regs) : (s.onRegs f).input = s.input := rfl

@[simp] theorem State.startCycle_params (s : State) : s.startCycle.params = s.params := rfl
@[simp] theorem State.startCycle_regs (s : State) : s.startCycle.regs = s.regs.clearStrobes := rfl
@[simp] theorem State.startCycle_env (s : State) : s.startCycle.env = s.env := rfl
@[simp] theorem State.startCycle_envCycle (s : State) : s.startCycle.envCycle = s.envCycle := rfl
@[simp] theorem State.startCycle_input (s : State) : s.startCycle.input = s.input := rfl

@[simp] theorem State.nextEnv_params (s : State) : s.nextEnv.params = s.params := rfl
@[simp] theorem State.nextEnv_regs (s : State) : s.nextEnv.regs = s.regs := rfl
@[simp] theorem State.nextEnv_env (s : State) : s.nextEnv.env = s.env.tail := rfl
@[simp] theorem State.nextEnv_envCycle (s : State) : s.nextEnv.envCycle = s.envCycle + 1 := rfl

@[simp] theorem State.merge_params (s : State) (r : Regs) : (s.merge r).params = s.params := rfl
@[simp] theorem State.merge_regs (s : State) (r : Regs) : (s.merge r).regs = mergeRegs s.regs r := rfl
@[simp] theorem State.merge_env (s : State) (r : Regs) : (s.merge r).env = s.env.tail := rfl
@[simp] theorem State.merge_envCycle (s : State) (r : Regs) : (s.merge r).envCycle = s.envCycle + 1 := rfl

@[simp] theorem mergeRegs_now (f b : Regs) : (mergeRegs f b).now = f.now + 1 := rfl
@[simp] theorem mergeRegs_cs (f b : Regs) : (mergeRegs f b).cs = f.cs := rfl
@[simp] theorem mergeRegs_fg (f b : Regs) : (mergeRegs f b).fg = f.fg := rfl
@[simp] theorem mergeRegs_kp (f b : Regs) : (mergeRegs f b).kp = f.kp := rfl
@[simp] theorem mergeRegs_bg (f b : Regs) : (mergeRegs f b).bg = b.bg := rfl
@[simp] theorem mergeRegs_tripped (f b : Regs) : (mergeRegs f b).tripped = b.tripped := rfl
@[simp] theorem mergeRegs_sn (f b : Regs) : (mergeRegs f b).sn = b.sn := rfl
@[simp] theorem mergeRegs_cap (f b : Regs) : (mergeRegs f b).cap = b.cap := rfl
@[simp] theorem mergeRegs_out (f b : Regs) : (mergeRegs f b).out =
    { row := f.out.row, dataOe := b.out.dataOe, dataOut := b.out.dataOut } := rfl
@[simp] theorem mergeRegs_mot (f b : Regs) :
    (mergeRegs f b).mot = if b.mot.wr then b.mot else f.mot := rfl
@[simp] theorem mergeRegs_en (f b : Regs) : (mergeRegs f b).en = true := rfl
@[simp] theorem mergeRegs_disp (f b : Regs) : (mergeRegs f b).disp = b.disp := rfl

@[simp] theorem resetCycle_params (s : State) : (resetCycle s).params = s.params := rfl
@[simp] theorem resetCycle_regs (s : State) : (resetCycle s).regs = resetRegs s.params := rfl
@[simp] theorem resetCycle_env (s : State) : (resetCycle s).env = s.env.tail := rfl
@[simp] theorem resetCycle_envCycle (s : State) : (resetCycle s).envCycle = s.envCycle + 1 := rfl

end Sys2Proof.Machine
end

