-- ==== Sys2Proof/Laws/Exec.lean ====
section
/-! SUPPORT. What the actions and `exec` can do, said once: every instruction that completes is one
well-formed action on FG's registers. -/

namespace Sys2Proof.Machine

/-! ## Frame of one action -/

@[simp] theorem doAction_now (ps : Params) (a : Action) (r : Regs) : (doAction ps a r).now = r.now := by
  cases a <;> simp only [doAction, doNop, doSetSpeed, doSetMode, doSetThr] <;> (try split) <;> rfl
@[simp] theorem doAction_kp (ps : Params) (a : Action) (r : Regs) : (doAction ps a r).kp = r.kp := by
  cases a <;> simp only [doAction, doNop, doSetSpeed, doSetMode, doSetThr] <;> (try split) <;> rfl
@[simp] theorem doAction_bg (ps : Params) (a : Action) (r : Regs) : (doAction ps a r).bg = r.bg := by
  cases a <;> simp only [doAction, doNop, doSetSpeed, doSetMode, doSetThr] <;> (try split) <;> rfl
@[simp] theorem doAction_tripped (ps : Params) (a : Action) (r : Regs) : (doAction ps a r).tripped = r.tripped := by
  cases a <;> simp only [doAction, doNop, doSetSpeed, doSetMode, doSetThr] <;> (try split) <;> rfl
@[simp] theorem doAction_sn (ps : Params) (a : Action) (r : Regs) : (doAction ps a r).sn = r.sn := by
  cases a <;> simp only [doAction, doNop, doSetSpeed, doSetMode, doSetThr] <;> (try split) <;> rfl
@[simp] theorem doAction_cap (ps : Params) (a : Action) (r : Regs) : (doAction ps a r).cap = r.cap := by
  cases a <;> simp only [doAction, doNop, doSetSpeed, doSetMode, doSetThr] <;> (try split) <;> rfl
@[simp] theorem doAction_out (ps : Params) (a : Action) (r : Regs) : (doAction ps a r).out = r.out := by
  cases a <;> simp only [doAction, doNop, doSetSpeed, doSetMode, doSetThr] <;> (try split) <;> rfl
@[simp] theorem doAction_en (ps : Params) (a : Action) (r : Regs) : (doAction ps a r).en = r.en := by
  cases a <;> simp only [doAction, doNop, doSetSpeed, doSetMode, doSetThr] <;> (try split) <;> rfl
@[simp] theorem doAction_disp (ps : Params) (a : Action) (r : Regs) : (doAction ps a r).disp = r.disp := by
  cases a <;> simp only [doAction, doNop, doSetSpeed, doSetMode, doSetThr] <;> (try split) <;> rfl
@[simp] theorem doAction_fg (ps : Params) (a : Action) (r : Regs) :
    (doAction ps a r).fg = { r.fg with state := .check } := by
  cases a <;> simp only [doAction, doNop, doSetSpeed, doSetMode, doSetThr] <;> (try split) <;> rfl

/-- The control state that an action leaves. -/
@[simp] theorem doAction_cs (ps : Params) (a : Action) (r : Regs) :
    (doAction ps a r).cs =
      match a with
      | .nop => r.cs
      | .setSpeed p => { r.cs with speed := speedOperand p }
      | .setMode m => { r.cs with mode := m }
      | .setThr t => { r.cs with thr := t } := by
  cases a <;> simp only [doAction, doNop, doSetSpeed, doSetMode, doSetThr] <;> (try split) <;> rfl

/-- The motor command that an action leaves: only a `SET_SPEED` whose push is allowed writes it. -/
@[simp] theorem doAction_mot (ps : Params) (a : Action) (r : Regs) :
    (doAction ps a r).mot =
      match a with
      | .setSpeed p => if pushAllowed r then { duty := pushOperand ps p, wr := true } else r.mot
      | .nop => r.mot
      | .setMode _ => r.mot
      | .setThr _ => r.mot := by
  cases a <;> simp only [doAction, doNop, doSetSpeed, doSetMode, doSetThr] <;> (try split) <;> rfl

/-! ## When an instruction completes, and with what -/

/-- The decoder answers only well-formed actions. -/
theorem decodeAction_wf {speeds : List Nat} {w : ActionWord} {a : Action}
    (h : decodeAction speeds w = .ok a) : a.wf speeds = true := by
  unfold decodeAction at h
  split at h
  · split at h <;> cases h
    rfl
  · split at h
    · split at h <;> cases h
      rename_i hl
      exact hl
    · split at h
      · split at h <;> cases h
        rfl
      · cases h
        rfl

theorem runAction_of_wf {a : Action} {s : State} (h : a.wf s.params.speedSet = true) :
    runAction a s = .next (s.onRegs (doAction s.params a)) := by simp [runAction, h]

theorem runAction_next {a : Action} {s t : State} (h : runAction a s = .next t) :
    a.wf s.params.speedSet = true ∧ t = s.onRegs (doAction s.params a) := by
  unfold runAction at h
  split at h
  · exact ⟨‹_›, by cases h; rfl⟩
  · cases h

theorem runActionWord_of_decode {w : ActionWord} {a : Action} {s : State}
    (h : decodeAction s.params.speedSet w = .ok a) :
    runActionWord w s = .next (s.onRegs (doAction s.params a)) := by
  simp [runActionWord, h, runAction_of_wf (decodeAction_wf h)]

theorem runActionWord_next {w : ActionWord} {s t : State} (h : runActionWord w s = .next t) :
    ∃ a, decodeAction s.params.speedSet w = .ok a ∧ t = s.onRegs (doAction s.params a) := by
  unfold runActionWord at h
  split at h
  · rename_i a ha
    exact ⟨a, ha, (runAction_next h).2⟩
  · cases h

/-- The dispatch of a cell is the meaning of that cell's key instruction. -/
theorem exec_keyInstr (cell : Fin 16) (s : State) : exec (keyInstr cell) s = runCell cell s := by
  fin_cases cell <;> rfl

/-- Every instruction that completes is one well-formed action, on FG's registers alone. -/
theorem exec_next {i : Instr} {s t : State} (h : exec i s = .next t) :
    ∃ a : Action, a.wf s.params.speedSet = true ∧ t = s.onRegs (doAction s.params a) := by
  have key : ∀ w, runActionWord w s = .next t → ∃ a : Action, a.wf s.params.speedSet = true ∧ t = s.onRegs (doAction s.params a) :=
    fun w hw => (runActionWord_next hw).imp fun _ ha => ⟨decodeAction_wf ha.1, ha.2⟩
  cases i with
  | nop => exact ⟨.nop, runAction_next (a := .nop) h⟩
  | setSpeed p => exact ⟨.setSpeed p, runAction_next (a := .setSpeed p) h⟩
  | setMode m => exact ⟨.setMode m, runAction_next (a := .setMode m) h⟩
  | setThr t => exact ⟨.setThr t, runAction_next (a := .setThr t) h⟩
  | keyNone => exact key 0x000 h
  | keyR0C0 => exact key (actionOfCell s.params 0) h
  | keyR0C1 => exact key (actionOfCell s.params 1) h
  | keyR0C2 => exact key (actionOfCell s.params 2) h
  | keyR0C3 => exact key (actionOfCell s.params 3) h
  | keyR1C0 => exact key (actionOfCell s.params 4) h
  | keyR1C1 => exact key (actionOfCell s.params 5) h
  | keyR1C2 => exact key (actionOfCell s.params 6) h
  | keyR1C3 => exact key (actionOfCell s.params 7) h
  | keyR2C0 => exact key (actionOfCell s.params 8) h
  | keyR2C1 => exact key (actionOfCell s.params 9) h
  | keyR2C2 => exact key (actionOfCell s.params 10) h
  | keyR2C3 => exact key (actionOfCell s.params 11) h
  | keyR3C0 => exact key (actionOfCell s.params 12) h
  | keyR3C1 => exact key (actionOfCell s.params 13) h
  | keyR3C2 => exact key (actionOfCell s.params 14) h
  | keyR3C3 => exact key (actionOfCell s.params 15) h

/-- No instruction faults. -/
theorem exec_ne_fault (i : Instr) (s : State) (f : Fault) : exec i s ≠ .fault f := nomatch f

end Sys2Proof.Machine
end

