-- ==== Sys2Proof/Laws/Agents.lean ====
section
/-! SUPPORT. What each agent can do in a cycle, said once: the registers it leaves alone (the
single-writer table of spec/10_state.md R35) and the cases of its step. -/

namespace Sys2Proof.Machine

/-! ## The operation that an agent's state names -/

section
variable {s : State}

theorem fgStep_check (h : s.regs.fg.state = .check) :
    fgStep s = .next (s.onRegs (scanCheck s.params)) := by simp [fgStep, h]
theorem fgStep_wait (h : s.regs.fg.state = .wait) : fgStep s = .next (s.onRegs scanWait) := by
  simp [fgStep, h]
theorem fgStep_sample (h : s.regs.fg.state = .sample) :
    fgStep s = .next (s.onRegs (scanSample s.params s.input)) := by simp [fgStep, h]
theorem fgStep_dispatch (h : s.regs.fg.state = .dispatch) : fgStep s = fgDispatch s := by
  simp [fgStep, h]

theorem bgStep_start (h : s.regs.bg.state = .start) : bgStep s = engineStart s.regs := by simp [bgStep, h]
theorem bgStep_rate (h : s.regs.bg.state = .rate) : bgStep s = senseRate s.params s.regs := by
  simp [bgStep, h]
theorem bgStep_high (h : s.regs.bg.state = .high) : bgStep s = senseHigh s.params s.regs := by
  simp [bgStep, h]
theorem bgStep_low (h : s.regs.bg.state = .low) : bgStep s = senseLow s.regs := by simp [bgStep, h]
theorem bgStep_cap (h : s.regs.bg.state = .cap) : bgStep s = senseCapture s.params s.input s.regs := by
  simp [bgStep, h]
theorem bgStep_dec (h : s.regs.bg.state = .dec) : bgStep s = senseDecode s.params s.regs := by
  simp [bgStep, h]
theorem bgStep_interlock (h : s.regs.bg.state = .interlock) :
    bgStep s = engineInterlock s.params s.regs := by simp [bgStep, h]
theorem bgStep_cool (h : s.regs.bg.state = .cool) : bgStep s = engineCool s.regs := by simp [bgStep, h]
theorem bgStep_pattern (h : s.regs.bg.state = .pattern) :
    bgStep s = enginePattern s.params s.envCycle s.regs := by simp [bgStep, h]
theorem bgStep_dwellOn (h : s.regs.bg.state = .dwellOn) : bgStep s = engineDwellOn s.regs := by
  simp [bgStep, h]
theorem bgStep_off (h : s.regs.bg.state = .off) : bgStep s = engineOff s.params s.envCycle s.regs := by
  simp [bgStep, h]
theorem bgStep_dwellOff (h : s.regs.bg.state = .dwellOff) : bgStep s = engineDwellOff s.regs := by
  simp [bgStep, h]

end

/-! ## Agent FG -/

/-- The registers that FG never writes. -/
def FgFrame (r r' : Regs) : Prop :=
  r'.now = r.now ∧ r'.bg = r.bg ∧ r'.tripped = r.tripped ∧ r'.sn = r.sn ∧ r'.cap = r.cap ∧
  r'.out.dataOe = r.out.dataOe ∧ r'.out.dataOut = r.out.dataOut ∧ r'.en = r.en ∧ r'.disp = r.disp

theorem startRow_frame (p : Params) (x : BitVec 2) (r : Regs) : FgFrame r (startRow p x r) :=
  ⟨rfl, rfl, rfl, rfl, rfl, rfl, rfl, rfl, rfl⟩

theorem scanCheck_frame (p : Params) (r : Regs) : FgFrame r (scanCheck p r) := by
  unfold scanCheck
  split
  · exact ⟨rfl, rfl, rfl, rfl, rfl, rfl, rfl, rfl, rfl⟩
  · exact startRow_frame p 0 r

theorem scanWait_frame (r : Regs) : FgFrame r (scanWait r) := by
  unfold scanWait
  split <;> exact ⟨rfl, rfl, rfl, rfl, rfl, rfl, rfl, rfl, rfl⟩

theorem scanSample_frame (p : Params) (i : Input) (r : Regs) : FgFrame r (scanSample p i r) := by
  unfold scanSample
  split
  · exact ⟨rfl, rfl, rfl, rfl, rfl, rfl, rfl, rfl, rfl⟩
  · split
    · exact ⟨rfl, rfl, rfl, rfl, rfl, rfl, rfl, rfl, rfl⟩
    · exact startRow_frame p _ r

theorem doAction_frame (p : Params) (a : Action) (r : Regs) : FgFrame r (doAction p a r) := by
  simp [FgFrame]

/-- The scanner writes neither the control state nor the motor command. -/
theorem scanCheck_cs_mot (p : Params) (r : Regs) :
    (scanCheck p r).cs = r.cs ∧ (scanCheck p r).mot = r.mot := by
  unfold scanCheck
  split <;> exact ⟨rfl, rfl⟩

theorem scanWait_cs_mot (r : Regs) : (scanWait r).cs = r.cs ∧ (scanWait r).mot = r.mot := by
  unfold scanWait
  split <;> exact ⟨rfl, rfl⟩

theorem scanSample_cs_mot (p : Params) (i : Input) (r : Regs) :
    (scanSample p i r).cs = r.cs ∧ (scanSample p i r).mot = r.mot := by
  unfold scanSample
  split
  · exact ⟨rfl, rfl⟩
  · split <;> exact ⟨rfl, rfl⟩

/-- The cases of FG's step: one scan operation, or one well-formed action. -/
theorem fgStep_cases {s t : State} (h : fgStep s = .next t) :
    (s.regs.fg.state = .check ∧ t = s.onRegs (scanCheck s.params)) ∨
    (s.regs.fg.state = .wait ∧ t = s.onRegs scanWait) ∨
    (s.regs.fg.state = .sample ∧ t = s.onRegs (scanSample s.params s.input)) ∨
    (s.regs.fg.state = .dispatch ∧ ∃ i, decodeKeycode s.regs.kp.res = .ok i ∧ exec i s = .next t) := by
  unfold fgStep at h
  split at h <;> rename_i hs
  · exact .inl ⟨hs, by cases h; rfl⟩
  · exact .inr (.inl ⟨hs, by cases h; rfl⟩)
  · exact .inr (.inr (.inl ⟨hs, by cases h; rfl⟩))
  · refine .inr (.inr (.inr ⟨hs, ?_⟩))
    unfold fgDispatch fetchInstr at h
    split at h
    · exact ⟨_, ‹_›, h⟩
    · cases h

/-- FG's step keeps the parameters and the environment, and writes no register of BG's. -/
theorem fgStep_frame {s t : State} (h : fgStep s = .next t) :
    t.params = s.params ∧ t.env = s.env ∧ t.envCycle = s.envCycle ∧ FgFrame s.regs t.regs := by
  rcases fgStep_cases h with ⟨_, rfl⟩ | ⟨_, rfl⟩ | ⟨_, rfl⟩ | ⟨_, i, _, hi⟩
  · exact ⟨rfl, rfl, rfl, scanCheck_frame _ _⟩
  · exact ⟨rfl, rfl, rfl, scanWait_frame _⟩
  · exact ⟨rfl, rfl, rfl, scanSample_frame _ _ _⟩
  · obtain ⟨a, _, rfl⟩ := exec_next hi
    exact ⟨rfl, rfl, rfl, doAction_frame _ a _⟩

/-- Every keycode but the reserved ones decodes to an instruction that a well-formed action table
completes. -/
theorem decodeKeycode_of_legal {k : KeyWord} (h : k = 0 ∨ k.getLsbD 4 = true) :
    decodeKeycode k = .ok .keyNone ∨ ∃ cell, decodeKeycode k = .ok (keyInstr cell) := by
  by_cases h0 : k = keycodeNone
  · exact .inl (by simp [decodeKeycode, h0])
  · rcases h with h | h
    · exact absurd h h0
    · exact .inr ⟨(cellIndex k).toFin, by simp [decodeKeycode, h0, h]⟩

/-- The action table of a well-formed parameter set holds legal words only. -/
theorem actionLegal_of_wf {p : Params} (h : paramsWf p = true) (cell : Fin 16) :
    ∃ a, decodeAction p.speedSet (actionOfCell p cell) = .ok a := by
  simp only [paramsWf, actionsWf, Bool.and_eq_true, List.all_eq_true] at h
  have hl : actionLegal p.speedSet (actionOfCell p cell) = true := h.1.2 _ (by simp [actionOfCell])
  unfold actionLegal at hl
  split at hl
  · exact ⟨_, ‹_›⟩
  · cases hl

/-- FG's step completes but at the dispatch of a reserved keycode. -/
theorem fgStep_completes {s : State} (hp : paramsWf s.params = true)
    (hk : s.regs.fg.state = .dispatch → s.regs.kp.res = 0 ∨ s.regs.kp.res.getLsbD 4 = true) :
    ∃ t, fgStep s = .next t := by
  cases hs : s.regs.fg.state with
  | check => exact ⟨_, fgStep_check hs⟩
  | wait => exact ⟨_, fgStep_wait hs⟩
  | sample => exact ⟨_, fgStep_sample hs⟩
  | dispatch =>
    rw [fgStep_dispatch hs]
    unfold fgDispatch fetchInstr
    rcases decodeKeycode_of_legal (hk hs) with h | ⟨cell, h⟩
    · exact ⟨_, by rw [h]; rfl⟩
    · obtain ⟨a, ha⟩ := actionLegal_of_wf hp cell
      rw [h]
      exact ⟨_, (exec_keyInstr cell s).trans (runActionWord_of_decode ha)⟩

/-! ## Agent BG -/

/-- The registers that BG never writes. -/
def BgFrame (r r' : Regs) : Prop :=
  r'.now = r.now ∧ r'.cs = r.cs ∧ r'.fg = r.fg ∧ r'.kp = r.kp ∧ r'.out.row = r.out.row ∧ r'.en = r.en

theorem engineStart_frame (r : Regs) : BgFrame r (engineStart r) := by
  simp [BgFrame, engineStart]

theorem senseRate_frame (p : Params) (r : Regs) : BgFrame r (senseRate p r) := by
  unfold senseRate
  split <;> simp [BgFrame, requestStart]

theorem senseHigh_frame (p : Params) (r : Regs) : BgFrame r (senseHigh p r) := by
  unfold senseHigh
  split <;> simp [BgFrame]

theorem senseLow_frame (r : Regs) : BgFrame r (senseLow r) := by
  unfold senseLow
  split <;> simp [BgFrame, captureStart]

theorem senseCapture_frame (p : Params) (i : Input) (r : Regs) : BgFrame r (senseCapture p i r) := by
  unfold senseCapture captureUnchanged
  split <;> split <;> simp [BgFrame, captureRecord, captureOverrun]

theorem senseDecode_frame (p : Params) (r : Regs) : BgFrame r (senseDecode p r) := by
  unfold senseDecode
  split
  · simp [BgFrame]
  · dsimp only
    split <;> simp [BgFrame, storeReading]

theorem engineInterlock_frame (p : Params) (r : Regs) : BgFrame r (engineInterlock p r) := by
  unfold engineInterlock
  split <;> simp [BgFrame, interlockTrip]

theorem engineCool_frame (r : Regs) : BgFrame r (engineCool r) := by
  unfold engineCool
  split <;> simp [BgFrame]

theorem enginePattern_frame (p : Params) (n : Nat) (r : Regs) : BgFrame r (enginePattern p n r) := by
  unfold enginePattern
  split
  · simp [BgFrame]
  · split <;> simp [BgFrame, dutyOn]

theorem engineDwellOn_frame (r : Regs) : BgFrame r (engineDwellOn r) := by
  unfold engineDwellOn
  split
  · simp [BgFrame]
  · split <;> simp [BgFrame]

theorem engineOff_frame (p : Params) (n : Nat) (r : Regs) : BgFrame r (engineOff p n r) := by
  unfold engineOff
  split <;> simp [BgFrame]

theorem engineDwellOff_frame (r : Regs) : BgFrame r (engineDwellOff r) := by
  unfold engineDwellOff
  split
  · simp [BgFrame]
  · split <;> simp [BgFrame]

/-- BG's step writes no register of FG's. -/
theorem bgStep_frame (s : State) : BgFrame s.regs (bgStep s) := by
  unfold bgStep
  split
  · exact engineStart_frame _
  · exact senseRate_frame _ _
  · exact senseHigh_frame _ _
  · exact senseLow_frame _
  · exact senseCapture_frame _ _ _
  · exact senseDecode_frame _ _
  · exact engineInterlock_frame _ _
  · exact engineCool_frame _
  · exact enginePattern_frame _ _ _
  · exact engineDwellOn_frame _
  · exact engineOff_frame _ _ _
  · exact engineDwellOff_frame _

end Sys2Proof.Machine
end

