-- ==== Sys2Proof/Laws/PerInstr.lean ====
section
/-! SUPPORT. Statements about every instruction, one lemma per constructor. -/

namespace Sys2Proof.Laws

/-- The `match` and `mask` of an instruction's row in spec/opcode_table.json. -/
def tableRow : Instr → Nat × Nat
  | .nop => (0x000, 0x3FF)
  | .setSpeed _ => (0x100, 0x300)
  | .setMode _ => (0x200, 0x3FC)
  | .setThr _ => (0x300, 0x300)
  | .keyNone => (0x000, 0x01F)
  | .keyR0C0 => (0x010, 0x01F)
  | .keyR0C1 => (0x011, 0x01F)
  | .keyR0C2 => (0x012, 0x01F)
  | .keyR0C3 => (0x013, 0x01F)
  | .keyR1C0 => (0x014, 0x01F)
  | .keyR1C1 => (0x015, 0x01F)
  | .keyR1C2 => (0x016, 0x01F)
  | .keyR1C3 => (0x017, 0x01F)
  | .keyR2C0 => (0x018, 0x01F)
  | .keyR2C1 => (0x019, 0x01F)
  | .keyR2C2 => (0x01A, 0x01F)
  | .keyR2C3 => (0x01B, 0x01F)
  | .keyR3C0 => (0x01C, 0x01F)
  | .keyR3C1 => (0x01D, 0x01F)
  | .keyR3C2 => (0x01E, 0x01F)
  | .keyR3C3 => (0x01F, 0x01F)

/-- An encoded word as a number, and the width of its format (spec/30_encoding.md R100). -/
def codeNat : Code → Nat × Nat
  | .key k => (k.toNat, 5)
  | .act w => (w.toNat, 10)

/-- The word that the encoder writes for an instruction matches the instruction's row of the opcode
table, and fits its format. -/
def TableRow.Statement (i : Instr) : Prop :=
  (codeNat (encode i)).1 &&& (tableRow i).2 = (tableRow i).1 ∧
  (codeNat (encode i)).1 < 2 ^ (codeNat (encode i)).2

namespace TableRow

theorem nop : Statement .nop := by unfold Statement; decide
theorem setSpeed (p : Byte) : Statement (.setSpeed p) := by revert p; unfold Statement; decide
theorem setMode (m : Mode) : Statement (.setMode m) := by cases m <;> (unfold Statement; decide)
theorem setThr (t : Byte) : Statement (.setThr t) := by revert t; unfold Statement; decide
theorem keyNone : Statement .keyNone := by unfold Statement; decide
theorem keyR0C0 : Statement .keyR0C0 := by unfold Statement; decide
theorem keyR0C1 : Statement .keyR0C1 := by unfold Statement; decide
theorem keyR0C2 : Statement .keyR0C2 := by unfold Statement; decide
theorem keyR0C3 : Statement .keyR0C3 := by unfold Statement; decide
theorem keyR1C0 : Statement .keyR1C0 := by unfold Statement; decide
theorem keyR1C1 : Statement .keyR1C1 := by unfold Statement; decide
theorem keyR1C2 : Statement .keyR1C2 := by unfold Statement; decide
theorem keyR1C3 : Statement .keyR1C3 := by unfold Statement; decide
theorem keyR2C0 : Statement .keyR2C0 := by unfold Statement; decide
theorem keyR2C1 : Statement .keyR2C1 := by unfold Statement; decide
theorem keyR2C2 : Statement .keyR2C2 := by unfold Statement; decide
theorem keyR2C3 : Statement .keyR2C3 := by unfold Statement; decide
theorem keyR3C0 : Statement .keyR3C0 := by unfold Statement; decide
theorem keyR3C1 : Statement .keyR3C1 := by unfold Statement; decide
theorem keyR3C2 : Statement .keyR3C2 := by unfold Statement; decide
theorem keyR3C3 : Statement .keyR3C3 := by unfold Statement; decide

end TableRow

end Sys2Proof.Laws
end

