-- ==== Sys2Proof/Laws/Step.lean ====
section
/-! SUPPORT. What one step and a run can do, said once. -/

namespace Sys2Proof.Machine

/-- An ordinary step is a cycle. -/
theorem step_of_ready {s : State} (h : Ready s) : step s = cycle s := by
  obtain ⟨hp, hr, hd⟩ := h
  simp [step, oneStep, hp, hr, hd]

/-- A cycle merges FG's state with BG's registers. -/
theorem cycle_of_fgStep {s sF : State} (h : fgStep s.startCycle = .next sF) :
    cycle s = .next (sF.merge (bgStep s.startCycle)) := by
  simp [cycle, h]

theorem cycle_next {s t : State} (h : cycle s = .next t) :
    ∃ sF, fgStep s.startCycle = .next sF ∧ t = sF.merge (bgStep s.startCycle) := by
  unfold cycle at h
  split at h
  · rename_i sF hF
    exact ⟨sF, hF, by cases h; rfl⟩
  · cases h
  · cases h

/-- A reset step is taken from any registers. -/
theorem step_of_reset {s : State} (hp : paramsWf s.params = true) (hr : s.input.rst = true) :
    step s = .next (resetCycle s) := by
  simp [step, oneStep, hp, hr]

/-- The cases of a step that answers a next state. -/
theorem step_cases {s t : State} (h : step s = .next t) :
    paramsWf s.params = true ∧
    ((s.input.rst = true ∧ t = resetCycle s) ∨
     (s.input.rst = false ∧ domainOk s.params s.regs = true ∧
       ∃ sF, fgStep s.startCycle = .next sF ∧ t = sF.merge (bgStep s.startCycle))) := by
  unfold step oneStep at h
  split at h
  · cases h
  · rename_i hp
    refine ⟨by simpa using hp, ?_⟩
    split at h
    · rename_i hr
      exact .inl ⟨hr, by cases h; rfl⟩
    · rename_i hr
      split at h
      · cases h
      · rename_i hd
        exact .inr ⟨by simpa using hr, by simpa using hd, cycle_next h⟩

/-- Where each register stands after a cycle without reset: FG's state and BG's registers, both stepped
from the state with the strobes at 0. -/
theorem step_regs {s t : State} (h : step s = .next t) (hr : s.input.rst = false) :
    ∃ sF, fgStep s.startCycle = .next sF ∧ sF.params = s.params ∧
      t.regs = mergeRegs sF.regs (bgStep s.startCycle) ∧ t.regs.now = s.regs.now + 1 := by
  obtain ⟨_, ⟨hr', _⟩ | ⟨_, _, sF, hF, rfl⟩⟩ := step_cases h
  · simp [hr] at hr'
  · obtain ⟨hp, _, _, hn, _⟩ := fgStep_frame hF
    exact ⟨sF, hF, hp, rfl, by simp [hn]⟩

/-- An ordinary step completes but at the dispatch of a reserved keycode. -/
theorem step_completes {s : State} (h : Ready s) (hk : s.regs.fg.state = .dispatch → KeyLegal s.regs) :
    ∃ t, step s = .next t := by
  obtain ⟨sF, hF⟩ := fgStep_completes (s := s.startCycle) h.1 hk
  exact ⟨_, (step_of_ready h).trans (cycle_of_fgStep hF)⟩

/-- No step faults. -/
theorem step_ne_fault (s : State) (f : Fault) : step s ≠ .fault f := nomatch f

/-- A step keeps the parameters and moves the environment on by one cycle. -/
theorem step_env {s t : State} (h : step s = .next t) :
    t.params = s.params ∧ t.env = s.env.tail ∧ t.envCycle = s.envCycle + 1 := by
  obtain ⟨_, ⟨_, rfl⟩ | ⟨_, _, sF, hF, rfl⟩⟩ := step_cases h
  · exact ⟨rfl, rfl, rfl⟩
  · obtain ⟨hp, he, hc, _⟩ := fgStep_frame hF
    simp_all

/-! ## Runs -/

@[simp] theorem run_zero (s : State) : run 0 s = .next s := rfl

theorem run_succ {n : Nat} {s t : State} (h : step s = .next t) : run (n + 1) s = run n t := by
  have : Sys2Proof.core.step s = .next t := h
  simp only [run, Host.Core.run, this]
  rfl

/-- A quiet environment has no reset in this cycle. -/
theorem QuietFor.input {s : State} {n : Nat} (h : QuietFor s (n + 1)) : s.input.rst = false := by
  obtain ⟨hl, hi⟩ := h
  cases he : s.env with
  | nil => simp [he] at hl
  | cons i l => simpa [State.input, he] using hi i (by simp [he])

/-- After a step the environment stays quiet for one cycle less. -/
theorem QuietFor.tail {s t : State} {n : Nat} (h : QuietFor s (n + 1)) (ht : t.env = s.env.tail) :
    QuietFor t n := by
  obtain ⟨hl, hi⟩ := h
  cases he : s.env with
  | nil => simp [he] at hl
  | cons i l =>
    rw [he] at hl hi ht
    refine ⟨by simpa [ht] using hl, fun x hx => hi x ?_⟩
    simp only [List.take_succ_cons, List.mem_cons]
    exact .inr (by simpa [ht] using hx)

end Sys2Proof.Machine
end

