-- ==== Sys2Proof/Laws/Writes.lean ====
section
/-! SUPPORT. What a cycle writes to the capture buffer, to the motor and to the display, said once for
each: the read-after-write laws of the buffer, and the outcome of each agent's step in the terms of
`Sys2Proof.Safety`. -/

namespace Sys2Proof.Machine

/-! ## The capture buffer (spec/20_memory.md R83) -/

@[simp] theorem capWrite_length (d : List Byte) (i : Nat) (v : Byte) : (capWrite d i v).length = d.length := by
  simp [capWrite]

theorem capRead_capWrite_self {d : List Byte} {i : Nat} (v : Byte) (h : i < d.length) :
    capRead (capWrite d i v) i = v := by
  simp [capRead, capWrite, h]

theorem capRead_capWrite_other {d : List Byte} {i j : Nat} (v : Byte) (h : j ≠ i) :
    capRead (capWrite d i v) j = capRead d j := by
  simp [capRead, capWrite, List.getD_eq_getElem?_getD, List.getElem?_set_ne h.symm]

/-! ## The interlock condition -/

theorem trips_eq (r : Regs) : trips r = tripNow r := by simp [trips, tripNow]

/-! ## The motor and the display -/

/-- `DUTY(0)` is 0, whatever the scale. -/
@[simp] theorem dutyCode_zero (p : Params) : dutyCode p 0 = 0 := by simp [dutyCode, dutyNat]


/-- FG's motor command of a cycle: its direct push, or the duty as it was. -/
theorem fgStep_mot {s sF : State} (hF : fgStep s.startCycle = .next sF) :
    sF.regs.mot = (match pushedDuty s with
      | some v => { duty := v, wr := true }
      | none => { duty := s.regs.mot.duty, wr := false }) := by
  unfold pushedDuty dispatchedAction
  rcases fgStep_cases hF with ⟨hs, rfl⟩ | ⟨hs, rfl⟩ | ⟨hs, rfl⟩ | ⟨hs, i, hi, he⟩
  · have : s.regs.fg.state = .check := hs
    simp [this, scanCheck_cs_mot]
  · have : s.regs.fg.state = .wait := hs
    simp [this, scanWait_cs_mot]
  · have : s.regs.fg.state = .sample := hs
    simp [this, scanSample_cs_mot]
  · have : s.regs.fg.state = .dispatch := hs
    simp only [this, if_true]
    simp only [State.startCycle_regs, Regs.clearStrobes_kp] at hi
    unfold decodeKeycode at hi
    split at hi
    · rename_i h0
      have h0' : s.regs.kp.res = 0 := h0
      cases hi
      simp only [h0', if_true]
      cases he; rfl
    · rename_i h0
      have h0' : ¬ s.regs.kp.res = 0 := h0
      simp only [h0', if_false]
      split at hi
      · rename_i h4
        simp only [h4, if_true]
        cases hi
        rw [exec_keyInstr] at he
        obtain ⟨a, ha, rfl⟩ := runActionWord_next he
        have : decodeAction s.params.speedSet (actionOfCell s.params (cellIndex s.regs.kp.res).toFin) = .ok a := ha
        rw [this]
        cases a <;> simp
        rename_i p
        simp only [pushAllowed, Regs.clearStrobes_cs, Regs.clearStrobes_tripped, pushOperand]
        by_cases h1 : s.regs.cs.mode = .unset <;> by_cases h2 : s.regs.tripped = true <;> simp [h1, h2]
      · cases hi

/-- BG's motor command of a cycle: a trip, a pattern step that drives, an OFF step, or nothing. -/
theorem bgStep_mot (s : State) : (bgStep s).mot =
      if tripsAt s.regs then { duty := 0, wr := true }
      else if drivesAt s.regs then { duty := dutyCode s.params s.regs.bg.spd.toNat, wr := true }
      else if offAt s.regs then { duty := 0, wr := true }
      else s.regs.mot := by
  have d0 : dutyCode s.params 0 = 0 := dutyCode_zero _
  unfold drivesAt tripsAt patternAt offAt
  cases hb : s.regs.bg.state with
  | start => rw [bgStep_start hb]; simp [engineStart]
  | rate => rw [bgStep_rate hb]; unfold senseRate requestStart; split <;> simp
  | high => rw [bgStep_high hb]; unfold senseHigh; split <;> simp
  | low => rw [bgStep_low hb]; unfold senseLow captureStart; split <;> simp
  | cap =>
    rw [bgStep_cap hb]
    unfold senseCapture captureUnchanged captureRecord captureOverrun
    split <;> split <;> simp
  | dec =>
    rw [bgStep_dec hb]
    unfold senseDecode storeReading
    split
    · simp
    · dsimp only; split <;> simp
  | interlock =>
    rw [bgStep_interlock hb]; unfold engineInterlock interlockTrip; rw [trips_eq]
    cases h : tripNow s.regs <;> simp [d0]
  | cool => rw [bgStep_cool hb]; unfold engineCool; split <;> simp
  | pattern =>
    rw [bgStep_pattern hb]; unfold enginePattern dutyOn modeChanged
    by_cases hm : s.regs.cs.mode = s.regs.bg.md
    · cases hmd : s.regs.bg.md <;> simp_all
    · simp [hm]
  | dwellOn =>
    rw [bgStep_dwellOn hb]
    unfold engineDwellOn
    split
    · simp
    · split <;> simp
  | off =>
    rw [bgStep_off hb]; unfold engineOff modeChanged
    by_cases hm : s.regs.cs.mode = s.regs.bg.md <;> simp [hm, d0]
  | dwellOff =>
    rw [bgStep_dwellOff hb]
    unfold engineDwellOff
    split
    · simp
    · split <;> simp

/-- BG's display of a cycle: refreshed at a trip, a pattern step and an OFF step. -/
theorem bgStep_disp (s : State) : (bgStep s).disp =
      if tripsAt s.regs || patternAt s.regs || offAt s.regs then
        shown s.regs (tripsAt s.regs)
      else s.regs.disp := by
  unfold shown tripsAt patternAt offAt
  cases hb : s.regs.bg.state with
  | start => rw [bgStep_start hb]; simp [engineStart]
  | rate => rw [bgStep_rate hb]; unfold senseRate requestStart; split <;> simp
  | high => rw [bgStep_high hb]; unfold senseHigh; split <;> simp
  | low => rw [bgStep_low hb]; unfold senseLow captureStart; split <;> simp
  | cap =>
    rw [bgStep_cap hb]
    unfold senseCapture captureUnchanged captureRecord captureOverrun
    split <;> split <;> simp
  | dec =>
    rw [bgStep_dec hb]
    unfold senseDecode storeReading
    split
    · simp
    · dsimp only; split <;> simp
  | interlock =>
    rw [bgStep_interlock hb]; unfold engineInterlock interlockTrip; rw [trips_eq]
    cases tripNow s.regs <;> simp
  | cool => rw [bgStep_cool hb]; unfold engineCool; split <;> simp
  | pattern =>
    rw [bgStep_pattern hb]; unfold enginePattern dutyOn modeChanged
    by_cases hm : s.regs.cs.mode = s.regs.bg.md
    · cases hmd : s.regs.bg.md <;> simp_all
    · simp [hm]
  | dwellOn =>
    rw [bgStep_dwellOn hb]
    unfold engineDwellOn
    split
    · simp
    · split <;> simp
  | off =>
    rw [bgStep_off hb]; unfold engineOff modeChanged
    by_cases hm : s.regs.cs.mode = s.regs.bg.md <;> simp [hm]
  | dwellOff =>
    rw [bgStep_dwellOff hb]
    unfold engineDwellOff
    split
    · simp
    · split <;> simp

end Sys2Proof.Machine
end

