-- ==== Sys2Proof/Tests/Slice0.lean ====
section
/-! SUPPORT. The model's own tests: words written out from the spec's encodings, ill-formed terms that the
checks refuse, the spec's test vectors (spec/95_test_vectors.md), and for every statement with
hypotheses a state that meets them. -/

namespace Sys2Proof.Tests

open Sys2Proof.Machine

set_option maxRecDepth 20000

/-! ## Helpers -/

/-- No reset, no key (active low), the data line high. -/
def idle : Input := { rst := false, col := 0b1111, data := true }

/-- The reset state with its registers changed and one idle input scripted. -/
def st (f : Regs → Regs) : State :=
  { State.reset with regs := f State.reset.regs, env := [idle] }

/-- The reset state with agent BG in another state. -/
def bgAt (x : BgState) (f : Regs → Regs := id) : State := st fun r => f (r.bgGoto x)

/-- The reset state with FG about to dispatch a keycode. -/
def keyAt (k : KeyWord) (f : Regs → Regs := id) : State :=
  st fun r => f ((r.setResult k).fgGoto .dispatch)

/-- The registers after a step, if it completes. -/
def after (s : State) : Option Regs :=
  match step s with
  | .next t => some t.regs
  | .fault _ => none
  | .refused _ => none

/-- The refusal of a step, if it is refused. -/
def refusal (s : State) : Option Refusal :=
  match step s with
  | .next _ => none
  | .fault _ => none
  | .refused r => some r

/-- What a field of the registers is after a step. -/
def get {α : Type} (s : State) (f : Regs → α) : Option α := (after s).map f

/-! ## Decoding: every row of the opcode table, its word written out bit by bit (R102, R106 to R108) -/

theorem test_decode_nop : decode Config.speedSet (.act 0b0000000000) = .ok .nop := by decide
theorem test_decode_setSpeed_30 : decode Config.speedSet (.act 0b0100011110) = .ok (.setSpeed 30) := by decide
theorem test_decode_setSpeed_100 : decode Config.speedSet (.act 0b0101100100) = .ok (.setSpeed 100) := by decide
theorem test_decode_setMode_natural :
    decode Config.speedSet (.act 0b1000000010) = .ok (.setMode .natural) := by decide
theorem test_decode_setMode_sleep :
    decode Config.speedSet (.act 0b1000000011) = .ok (.setMode .sleep) := by decide
theorem test_decode_setThr_40 : decode Config.speedSet (.act 0b1100101000) = .ok (.setThr 40) := by decide
theorem test_decode_keyNone : decode Config.speedSet (.key 0b00000) = .ok .keyNone := by decide
theorem test_decode_keyR0C0 : decode Config.speedSet (.key 0b10000) = .ok .keyR0C0 := by decide
theorem test_decode_keyR0C1 : decode Config.speedSet (.key 0b10001) = .ok .keyR0C1 := by decide
theorem test_decode_keyR0C2 : decode Config.speedSet (.key 0b10010) = .ok .keyR0C2 := by decide
theorem test_decode_keyR0C3 : decode Config.speedSet (.key 0b10011) = .ok .keyR0C3 := by decide
theorem test_decode_keyR1C0 : decode Config.speedSet (.key 0b10100) = .ok .keyR1C0 := by decide
theorem test_decode_keyR1C1 : decode Config.speedSet (.key 0b10101) = .ok .keyR1C1 := by decide
theorem test_decode_keyR1C2 : decode Config.speedSet (.key 0b10110) = .ok .keyR1C2 := by decide
theorem test_decode_keyR1C3 : decode Config.speedSet (.key 0b10111) = .ok .keyR1C3 := by decide
theorem test_decode_keyR2C0 : decode Config.speedSet (.key 0b11000) = .ok .keyR2C0 := by decide
theorem test_decode_keyR2C1 : decode Config.speedSet (.key 0b11001) = .ok .keyR2C1 := by decide
theorem test_decode_keyR2C2 : decode Config.speedSet (.key 0b11010) = .ok .keyR2C2 := by decide
theorem test_decode_keyR2C3 : decode Config.speedSet (.key 0b11011) = .ok .keyR2C3 := by decide
theorem test_decode_keyR3C0 : decode Config.speedSet (.key 0b11100) = .ok .keyR3C0 := by decide
theorem test_decode_keyR3C1 : decode Config.speedSet (.key 0b11101) = .ok .keyR3C1 := by decide
theorem test_decode_keyR3C2 : decode Config.speedSet (.key 0b11110) = .ok .keyR3C2 := by decide
theorem test_decode_keyR3C3 : decode Config.speedSet (.key 0b11111) = .ok .keyR3C3 := by decide

/-- Reserved words are rejected by name: `NOP` with an argument, a speed outside the set, a mode with a
high bit, a keycode without `v` (R103, R108). -/
theorem test_reserved_words_rejected :
    decode Config.speedSet (.act 0x001) = .error (.reservedAction 0x001) ∧
    decode Config.speedSet (.act 0x101) = .error (.reservedAction 0x101) ∧
    decode Config.speedSet (.act 0x204) = .error (.reservedAction 0x204) ∧
    decode Config.speedSet (.key 0x0F) = .error (.reservedKeycode 0x0F) := by decide

/-- The opcode table's own numbering, one word of each width. -/
theorem test_decodeTableWord :
    decodeTableWord 16 0x13C = some (.setSpeed 60) ∧ decodeTableWord 8 0x1B = some .keyR2C3 ∧
    decodeTableWord 16 0x19 = some .keyR2C1 ∧ decodeTableWord 16 0x101 = none := by decide

/-- A placed word runs as the first instruction after reset. -/
theorem test_withFetchWord_runs :
    get (State.reset.withFetchWord 16 0x31E) (·.cs.thr) = some 30 ∧
    get (State.reset.withFetchWord 8 0x1B) (·.cs.mode) = some .sleep := by decide

/-! ## Ill-formed terms, one for each check -/

theorem test_wf_refuses_speed_25 : (Instr.setSpeed 25).wf Config.speedSet = false := by decide
theorem test_paramsWf_accepts_defaults :
    paramsWf (defaultParams false 200000) = true ∧ paramsWf (defaultParams true 1000000) = true := by decide
theorem test_boundsWf_refuses :
    boundsWf { testParams with rows := 3 } = false ∧ boundsWf { testParams with cols := 5 } = false ∧
    boundsWf { testParams with rowSettle := 257 } = false ∧
    boundsWf { testParams with maxUnchanged := 0 } = false ∧
    boundsWf { testParams with maxUnchanged := 256 } = false ∧
    boundsWf { testParams with thrReset := 256 } = false := by decide
theorem test_widthsWf_refuses :
    widthsWf { testParams with bitBase := 6 } = false ∧
    widthsWf { testParams with expected := 82 } = false ∧
    widthsWf { testParams with expected := 128 } = false ∧
    widthsWf { testParams with dutyFull := 65536 } = false ∧
    widthsWf { testParams with speedSet := [30, 60] } = false ∧
    widthsWf { testParams with speedSet := [0, 101] } = false := by decide
theorem test_durationsWf_refuses :
    durationsWf { testParams with startHigh := 0 } = false ∧
    durationsWf { testParams with reqLow := 17999 } = false ∧
    durationsWf { testParams with debounce := 0 } = false ∧
    durationsWf { testParams with minInterval := 2 ^ 24 } = false ∧
    durationsWf { testParams with cooldown := 0 } = false ∧
    durationsWf { testParams with dwellNatural := 2 ^ 24 } = false ∧
    durationsWf { testParams with dwellSleep := 0 } = false := by decide
theorem test_actionsWf_refuses_reserved_word :
    actionsWf { testParams with action := testParams.action.set 3 0x101 } = false := by decide
theorem test_symbolsWf_refuses_repeat :
    symbolsWf { testParams with symbol := testParams.symbol.set 3 0x31 } = false := by decide

/-! ## The model's refusals (R316) -/

theorem test_refuses_params :
    refusal { st id with params := { testParams with rows := 3 } } = some .illFormedParameters := by decide
theorem test_refuses_domain :
    refusal (st (·.setSpeed 25)) = some .brokenDomain := by decide
theorem test_refuses_reserved_keycode :
    refusal (keyAt 0x0F) = some (.reservedKeycode 0x0F) := by decide
theorem test_reset_from_broken_domain :
    get { st (·.setSpeed 25) with env := [{ idle with rst := true }] } (·.cs.speed) = some 0 := by decide

/-! ## Dispatcher vectors V-D1 to V-D11 -/

theorem test_VD2_setSpeed_pushes :
    get (keyAt 0x11 (·.setTripped false)) (fun r => (r.cs.speed, r.mot.duty, r.mot.wr)) =
      some (60, 39321, true) := by decide
theorem test_VD3_setSpeed_tripped :
    get (keyAt 0x11) (fun r => (r.cs.speed, r.mot.duty, r.mot.wr)) = some (60, 0, false) := by decide
theorem test_VD4_setSpeed_mode_active :
    get (keyAt 0x11 fun r => (r.setTripped false).setMode .normal)
      (fun r => (r.cs.speed, r.mot.duty, r.mot.wr)) = some (60, 0, false) := by decide
theorem test_VD5_setMode_sleep :
    get (keyAt 0x1B) (fun r => (r.cs.mode, r.cs.speed, r.fg.state)) = some (.sleep, 0, .check) := by decide
theorem test_VD8_setThr : get (keyAt 0x1E) (·.cs.thr) = some 40 := by decide
theorem test_VD10_unmapped_key :
    get (keyAt 0x15) (fun r => (r.cs, r.mot.wr)) = some (State.reset.regs.cs, false) := by decide
theorem test_VD11_trip_beats_push :
    get (keyAt 0x11 fun r => (r.setTripped false).bgGoto .interlock)
      (fun r => (r.cs.speed, r.mot, r.tripped, r.disp.warn, r.bg.state, r.bg.tmr)) =
      some (60, { duty := 0, wr := true }, true, true, .cool, 9999999) := by decide

/-- A build with other values of the parameters R7 does not bound (I3): the speed set {0, 50}, a duty scale of
1000 and 90 transitions. -/
def otherBuild : Params :=
  { testParams with speedSet := [0, 50], dutyFull := 1000, expected := 90,
                    action := Vector.replicate 16 0x132 }

theorem test_other_build :
    paramsWf otherBuild = true ∧ paramsWf { testParams with speedSet := [0, 50] } = false ∧
    (State.resetWith otherBuild).regs.cap.d.length = 90 ∧
    get { State.resetWith otherBuild with
          regs := (((resetRegs otherBuild).setTripped false).setResult 0x10).fgGoto .dispatch,
          env := [idle] } (fun r => (r.cs.speed, r.mot.duty)) = some (50, 500) := by decide

/-! ## Scanner examples (R141 to R147) -/

theorem test_scan_start :
    get (st id) (fun r => (r.out.row, r.fg.state, r.fg.wcnt)) = some (0b1110, .wait, 0) := by decide
theorem test_scan_suppressed_R141 :
    get (st fun r => { r with now := 6, kp := { last := 4, valid := true, res := 0 } })
      (fun r => (r.kp.res, r.fg.state, r.out.row)) = some (0, .dispatch, 0b1111) := by decide
theorem test_scan_window_elapsed :
    get (st fun r => { r with now := 20002, kp := { last := 2, valid := true, res := 0 } })
      (·.fg.state) = some .wait := by decide
theorem test_scan_match_R145 :
    get { st (fun r => { r with now := 4, fg := { state := .sample, row := 1, wcnt := 0 } }) with
          env := [{ idle with col := 0b1011 }] }
      (fun r => (r.kp, r.out.row, r.fg.state)) =
      some ({ last := 4, valid := true, res := 0x16 }, 0b1111, .dispatch) := by decide
theorem test_scan_lowest_column_VK2 :
    get { st (fun r => { r with fg := { state := .sample, row := 1, wcnt := 0 } }) with
          env := [{ idle with col := 0b1001 }] } (·.kp.res) = some 0x15 := by decide
theorem test_scan_next_row_R147 :
    get (st fun r => { r with fg := { state := .sample, row := 0, wcnt := 0 } })
      (fun r => (r.out.row, r.fg.row, r.fg.state)) = some (0b1101, 1, .wait) := by decide
theorem test_scan_no_key_R146 :
    get (st fun r => { r with fg := { state := .sample, row := 3, wcnt := 0 } })
      (fun r => (r.out.row, r.kp.res, r.fg.state)) = some (0b1111, 0, .dispatch) := by decide

/-! ## Sensor decoder -/

/-- The `PULSES` of frame F1, transcribed from spec/95_test_vectors.md section 0. -/
def pulsesF1 : List Byte :=
  [30, 80, 80, 50, 27, 50, 27, 50, 70, 50, 27, 50, 70, 50, 70, 50, 27, 50, 70,
     50, 27, 50, 27, 50, 27, 50, 27, 50, 27, 50, 27, 50, 27, 50, 27,
     50, 27, 50, 27, 50, 27, 50, 70, 50, 27, 50, 70, 50, 70, 50, 70,
     50, 27, 50, 27, 50, 27, 50, 27, 50, 27, 50, 27, 50, 27, 50, 27,
     50, 27, 50, 70, 50, 27, 50, 27, 50, 27, 50, 70, 50, 27, 50, 27,
     50]

/-- `S_DEC` with a full capture. -/
def decAt (d : List Byte) (f : Regs → Regs := id) : State :=
  bgAt .dec fun r => f { r with now := 22853, cap := { r.cap with d := d, idx := 84 } }

theorem test_F1_decodes :
    decodeFrame testParams pulsesF1 = { b0 := 0x2D, b1 := 0, b2 := 0x17, b3 := 0, b4 := 0x44 } := by decide
theorem test_VS1_ok :
    get (decAt pulsesF1) (·.sn) = some
      { rdValid := true, rdHi := 45, rdHd := 0, rdTi := 23, rdTd := 0, rdCk := 0x44, lastOk := 22853,
        status := .ok } := by decide
theorem test_VS6_checksum :
    get (decAt (pulsesF1.set 4 70)) (fun r => (r.sn.status, r.sn.rdValid)) =
      some (.checksum, false) := by decide
theorem test_VS7b_threshold_50_is_0_51_is_1 :
    get (decAt (List.replicate 84 50)) (·.sn.status) = some .ok ∧
    get (decAt ((List.replicate 84 50).set 4 51)) (·.sn.status) = some .checksum := by decide
theorem test_VS9_VS10_pulse_count :
    get (decAt pulsesF1 fun r => { r with cap := { r.cap with idx := 82 } }) (·.sn.status) =
      some .pulseCount ∧
    get (decAt pulsesF1 fun r => { r with cap := { r.cap with overrun := true } }) (·.sn.status) =
      some .pulseCount := by decide
theorem test_capture_first_transition_R178 :
    get { bgAt .cap (fun r => { r with now := 19032, cap := { r.cap with ts := 19002, unch := 30 } }) with
          env := [{ idle with data := false }] }
      (fun r => (capRead r.cap.d 0, r.cap.ts, r.cap.idx, r.cap.val, r.cap.unch)) =
      some (30, 19032, 1, false, 0) := by decide
theorem test_capture_overrun_R179 :
    get { bgAt .cap (fun r => { r with cap := { r.cap with idx := 84 } }) with
          env := [{ idle with data := false }] }
      (fun r => (r.cap.overrun, r.cap.idx, r.bg.state)) = some (true, 84, .dec) := by decide
theorem test_capture_stall_R180 :
    get (bgAt .cap fun r => { r with cap := { r.cap with unch := 99 } }) (·.bg.state) = some .dec ∧
    get (bgAt .cap fun r => { r with cap := { r.cap with unch := 98 } })
      (fun r => (r.bg.state, r.cap.unch)) = some (.cap, 99) := by decide
theorem test_rate_limited_R171 :
    get (bgAt .rate fun r => { r with now := 22857, sn := { r.sn with rdValid := true, lastOk := 22853 } })
      (fun r => (r.bg.state, r.out.dataOe)) = some (.interlock, false) := by decide
theorem test_request_R172 :
    get (bgAt .rate) (fun r => (r.bg.state, r.bg.tmr, r.out.dataOe, r.out.dataOut)) =
      some (.high, 999, true, true) := by decide
theorem test_capture_start_R176 :
    get (bgAt .low fun r => { r with now := 19001 })
      (fun r => (r.bg.state, r.cap.ts, r.cap.val, r.out.dataOe)) = some (.cap, 19002, true, false) := by decide

/-! ## Wind engine vectors V-E1 to V-E7h -/

/-- `B_INTERLOCK` with a reading and a threshold. -/
def checkAt (ti td thr : Byte) : State :=
  bgAt .interlock fun r =>
    { r with sn := { r.sn with rdValid := true, rdTi := ti, rdTd := td }, cs := { r.cs with thr := thr } }

theorem test_VE1_trip :
    get (checkAt 30 0 30) (fun r => (r.bg.state, r.bg.tmr, r.mot, r.tripped, r.disp.warn)) =
      some (.cool, 9999999, { duty := 0, wr := true }, true, true) := by decide
theorem test_VE2_pass :
    get (checkAt 29 9 30) (fun r => (r.bg.state, r.tripped, r.mot.wr)) = some (.pattern, false, false) := by
  decide
theorem test_VE3_VE4_trip :
    get (checkAt 29 10 30) (·.bg.state) = some .cool ∧ get (checkAt 0 0 0) (·.bg.state) = some .cool := by
  decide

/-- An engine state with a latched mode, a shared mode, a latched speed and a timer. -/
def engineAt (x : BgState) (md mode : Mode) (spd : BitVec 7) (tmr : BitVec 24) : State :=
  st fun r => { r with bg := { state := x, md := md, spd := spd, tmr := tmr },
                       cs := { r.cs with mode := mode }, tripped := false }

theorem test_VE5_abort :
    get (engineAt .dwellOn .natural .sleep 0 500) (fun r => (r.bg.state, r.bg.tmr, r.mot.wr)) =
      some (.start, 500, false) := by decide
theorem test_VE6_dwellOn_ends : get (engineAt .dwellOn .natural .natural 0 0) (·.bg.state) = some .off := by
  decide
theorem test_VE7_cool_ends : get (bgAt .cool) (·.bg.state) = some .start := by decide
theorem test_VE7c_off :
    get (engineAt .off .sleep .sleep 60 0) (fun r => (r.bg.state, r.bg.tmr, r.mot, r.disp.wr)) =
      some (.dwellOff, 1999999, { duty := 0, wr := true }, true) := by decide
theorem test_VE7d_dwellOff_ends :
    get (engineAt .dwellOff .sleep .sleep 60 0) (·.bg.state) = some .start := by decide
theorem test_VE7e_unset :
    get (engineAt .pattern .unset .unset 60 0) (fun r => (r.bg.state, r.disp.wr, r.mot.wr)) =
      some (.start, true, false) := by decide
theorem test_VE7f_normal :
    get (engineAt .pattern .normal .normal 80 0) (fun r => (r.bg.state, r.mot.duty, r.mot.wr)) =
      some (.start, 52428, true) := by decide
theorem test_VE7g_mode_changed :
    get (engineAt .pattern .normal .natural 80 0) (fun r => (r.bg.state, r.mot.wr, r.disp.wr)) =
      some (.start, false, false) := by decide
theorem test_VE7h_sleep :
    get (engineAt .pattern .sleep .sleep 100 0) (fun r => (r.bg.state, r.bg.tmr, r.mot.duty)) =
      some (.dwellOn, 1999999, 65535) := by decide

/-! ## Motor, display and reset vectors -/

theorem test_VM1_duty :
    [0, 30, 60, 80, 100].map (dutyCode testParams) = [0, 19660, 39321, 52428, 65535] := rfl
theorem test_VM2_display_word :
    dispWord { speed := 60, mode := .normal, thr := 30, tValid := true, hi := 45, hd := 0, ti := 35,
               td := 0, status := .ok, warn := true, wr := false } = 0xF11E968011803 := by decide
theorem test_VM4_enable : State.reset.regs.en = false ∧ get (st id) (·.en) = some true := by decide
theorem test_ports_at_reset :
    ports testParams State.reset.regs =
      { rowOut := 0b1111, colPull := true, dataOe := false, dataOut := true, dataPu := true,
        motorDuty := 0, motorWr := false, motorEn := false, disp := 0, dispWr := false,
        ilTripped := true, snStatus := 0, keyCode := 0 } := by decide

/-! ## Witnesses: for every statement with hypotheses, a state that meets them together -/

/-- A scripted environment without reset is quiet. -/
theorem quiet_replicate (s : State) (n : Nat) : QuietFor { s with env := List.replicate n idle } n := by
  refine ⟨by simp, fun i hi => ?_⟩
  have hi' : i ∈ List.replicate n idle := List.mem_of_mem_take hi
  rw [List.eq_of_mem_replicate hi']
  rfl

/-- The helper states are ordinary ones. -/
theorem ready_st : Ready (st id) := by decide

/-- SetSpeedStoresAndPushes, ReservedActionWordsAreRefused: a percent of each kind. -/
theorem witness_speeds :
    (100 : Byte).toNat ∈ testParams.speedSet ∧ (101 : Byte).toNat ∉ testParams.speedSet := by decide

/-- ReservedActionWordsAreRefused: a table with a reserved word. -/
theorem witness_reserved_table :
    actionLegal testParams.speedSet (testParams.action.set 0 0x0FF)[0] = false := by
  decide

/-- AcceptedParameterSets, LegalActionWordsAreTheListedOnes, KeysExecuteTheirTableAction,
ResetStateHoldsTheTable, ResetHasTheInvariant. -/
theorem witness_params : paramsWf testParams = true := by decide

/-- NopWritesNothing: a cell whose table word is 0x000. -/
theorem witness_unmapped_cell : testParams.action[5] = 0x000 := by decide

/-- InstructionFrame: an instruction that completes. -/
theorem witness_exec : ∃ t, exec .keyR0C1 (keyAt 0x11) = .next t := ⟨_, rfl⟩

/-- StepRunsTheDecodedInstruction. -/
theorem witness_dispatch :
    Ready (keyAt 0x11) ∧ (keyAt 0x11).regs.fg.state = .dispatch ∧
    decode Config.speedSet (.key (keyAt 0x11).regs.kp.res) = .ok .keyR0C1 := by decide

/-- ControlStateChangesOnlyByDispatch, MotorCommandOfACycle, DisplaySnapshotOfACycle,
InterlockFlagChangesOnlyAtTheCheck: a step without reset, with a push, and with a trip. -/
theorem witness_step :
    (∃ t, step (keyAt 0x11 (·.setTripped false)) = .next t) ∧ (keyAt 0x11).input.rst = false ∧
    pushedDuty (keyAt 0x11 (·.setTripped false)) = some 39321 ∧
    (∃ t, step (bgAt .interlock) = .next t) ∧ tripsAt (bgAt .interlock).regs = true ∧
    passesAt (checkAt 29 9 30).regs = true ∧ tripsAt (checkAt 30 0 30).regs = true :=
  ⟨⟨_, rfl⟩, by decide, by decide, ⟨_, rfl⟩, by decide, by decide, by decide⟩

/-- DutyWritesCoincideOnlyAtATrip: vector V-D11. -/
theorem witness_coincide :
    let s := keyAt 0x11 fun r => (r.setTripped false).bgGoto .interlock
    s.input.rst = false ∧ DwellMode s.regs ∧ (∃ t, step s = .next t) ∧ (pushedDuty s).isSome = true ∧
    (bgStep s.startCycle).mot.wr = true :=
  ⟨by decide, by decide, ⟨_, rfl⟩, by decide, by decide⟩

/-- ResetOverridesEverything, ResetHeldStaysReset: two cycles of reset. -/
theorem witness_reset :
    let s : State := { st (·.setSpeed 25) with env := [{ idle with rst := true }, { idle with rst := true }] }
    paramsWf s.params = true ∧ s.input.rst = true ∧ 2 ≤ s.env.length ∧
    ∀ i ∈ s.env.take 2, i.rst = true := by decide

/-- TimebaseCountsAndMotorIsEnabled, and the invariants that every step keeps (RowsIdleOutsideAScan,
CaptureStaysSound, DurationsStayBounded, DataPinDrivenOnlyInARequest, InterlockHoldsTheMotor,
MotorCarriesOnlyTheFiveCodes, ReservedKeycodesNeverArise, EveryStepKeepsTheInvariant): a step from a
state that has them all, in the middle of a capture. -/
theorem witness_invariants :
    let s := bgAt .cap fun r =>
      { r with now := 200, cap := { r.cap with idx := 1, val := false, unch := 4, ts := 195 } }
    (∃ t, step s = .next t) ∧ BlockInv s ∧ CaptureSound s.params s.regs ∧
    DurationsBounded s.params s.regs ∧ RowsMatch s.params s.regs ∧ PinMatch s.regs ∧
    InterlockHeld s.regs ∧ DutyLegal s.params s.regs ∧ KeyLegal s.regs :=
  ⟨⟨_, rfl⟩, by constructor <;> decide, by decide, by decide, by decide, by decide, by decide, by decide,
    by decide⟩

/-- ReservedKeycodesNeverArise: the two ends of the reserved range are dispatched from ordinary states. -/
theorem witness_reserved_keycodes :
    Ready (keyAt 0x01) ∧ Ready (keyAt 0x0F) ∧ (keyAt 0x0F).regs.fg.state = .dispatch := by decide

/-- DebounceCheckSuppressesOrStartsScan: one cycle before the window has elapsed, and when it has. -/
theorem witness_debounce :
    let s (n : Time) := st fun r => { r with now := n, kp := { last := 2, valid := true, res := 0 } }
    Ready (s 20001) ∧ (s 20001).regs.fg.state = .check ∧ (2 : Time) ≤ (s 20001).regs.now ∧
    suppressed testParams (s 20001).regs = true ∧ Ready (s 20002) ∧
    suppressed testParams (s 20002).regs = false := by decide

/-- RowSettleCountsDown: both ends of the count. -/
theorem witness_wait :
    let s (n : BitVec 8) := st fun r => { r with fg := { state := .wait, row := 0, wcnt := n } }
    Ready (s 0) ∧ Ready (s 255) ∧ (s 0).regs.fg.state = .wait := by decide

/-- ColumnSampleFirstMatchWins: the last column alone, and no column, on the last row. -/
theorem witness_sample :
    let s (c : BitVec 4) : State :=
      { st (fun r => { r with fg := { state := .sample, row := 3, wcnt := 0 } }) with
        env := [{ idle with col := c }] }
    Ready (s 0b0111) ∧ Ready (s 0b1111) ∧ (s 0b0111).regs.fg.state = .sample ∧
    firstActiveColumn testParams (s 0b0111).input.col = some 3 ∧
    firstActiveColumn testParams (s 0b1111).input.col = none := by decide

/-- DebounceWindowSuppressesEveryScan: the whole window of a detection. -/
theorem witness_window :
    ∃ s : State, BlockInv s ∧ s.regs.fg.state = .dispatch ∧ s.regs.kp.valid = true ∧
      s.regs.kp.last ≤ s.regs.now ∧ s.regs.now.toNat + 19999 < 2 ^ 64 ∧
      s.regs.now.toNat - s.regs.kp.last.toNat + 19999 ≤ s.params.debounce ∧ QuietFor s 19999 := by
  refine ⟨_, ?_, ?_, ?_, ?_, ?_, ?_, quiet_replicate
    (keyAt 0x10 fun r => { r with now := 3, kp := { r.kp with last := 2, valid := true } }) 19999⟩
  · constructor <;> decide
  all_goals decide

/-- RateLimiterOrRequest: on both sides of the interval's end. -/
theorem witness_rate :
    let s (n : Time) :=
      bgAt .rate fun r => { r with now := n, sn := { r.sn with rdValid := true, lastOk := 5 } }
    (∃ t, step (s 200004) = .next t) ∧ (s 200004).input.rst = false ∧
    (s 200004).regs.bg.state = .rate ∧ (5 : Time) ≤ (s 200004).regs.now ∧
    rateLimited testParams (s 200004).regs = true ∧
    (∃ t, step (s 200005) = .next t) ∧ rateLimited testParams (s 200005).regs = false :=
  ⟨⟨_, rfl⟩, by decide, by decide, by decide, by decide, ⟨_, rfl⟩, by decide⟩

/-- RequestPhases, MeasurementOutcome, IterationStartLatches, CoolDownCountsDown, PatternStep,
BackgroundRegistersChangeOnlyInTheirStates,
InterlockTripsOrPasses, CaptureSamplesThePin: a step without reset from the state of each. -/
theorem witness_bg_states (x : BgState) :
    (bgAt x).input.rst = false ∧ (∃ t, step (bgAt x) = .next t) ∧ (bgAt x).regs.bg.state = x := by
  refine ⟨rfl, step_completes ?_ (fun h => ?_), rfl⟩
  · cases x <;> decide
  · cases h

/-- RequestPhases, CoolDownCountsDown: the other side of the timer's end. -/
theorem witness_timer_running :
    let s (x : BgState) := bgAt x (·.setTimer 1)
    (∃ t, step (s .high) = .next t) ∧ (∃ t, step (s .low) = .next t) ∧ (∃ t, step (s .cool) = .next t) ∧
    (s .high).input.rst = false ∧ (s .high).regs.bg.tmr ≠ 0 ∧ (bgAt .high).regs.bg.tmr = 0 :=
  ⟨⟨_, rfl⟩, ⟨_, rfl⟩, ⟨_, rfl⟩, by decide, by decide, by decide⟩

/-- DutyIsRoundedToNearestEven: the one tie of the five percents. -/
theorem witness_tie : (30 : Nat) ≤ 100 ∧ 2 * (30 * 65535) = 2 * (100 * 19660) + 100 := by decide

/-- PatternStep: each latched mode, unchanged. -/
theorem witness_pattern (m : Mode) : patternAt (engineAt .pattern m m 60 0).regs = true := by
  cases m <;> decide

/-- DwellsAndOffStep: its premise and its three states, with the mode kept and changed. -/
theorem witness_dwells (m : Mode) :
    DwellMode (engineAt .dwellOn .natural m 60 0).regs ∧ DwellMode (engineAt .off .sleep m 60 0).regs ∧
    DwellMode (engineAt .dwellOff .sleep m 60 7).regs ∧
    (∃ t, step (engineAt .off .sleep m 60 0) = .next t) := by
  refine ⟨?_, ?_, ?_, step_completes ?_ (fun h => ?_)⟩
  · cases m <;> decide
  · cases m <;> decide
  · cases m <;> decide
  · cases m <;> decide
  · cases h

/-- CaptureSamplesThePin: both sides of the buffer's end and of the stall. -/
theorem witness_capture :
    let s (n : BitVec 7) (u : BitVec 8) : State :=
      { bgAt .cap (fun r => { r with now := 50, cap := { r.cap with idx := n, unch := u } }) with
        env := [{ idle with data := false }] }
    captureRoom testParams (s 83 0).regs = true ∧ captureRoom testParams (s 84 0).regs = false ∧
    stalled testParams (s 0 98).regs = false ∧ stalled testParams (s 0 99).regs = true ∧
    isTransition (s 0 0).input (s 0 0).regs = true ∧ Ready (s 84 0) ∧
    (s 0 0).regs.cap.ts ≤ (s 0 0).regs.now ∧
    (s 0 0).regs.now.toNat - (s 0 0).regs.cap.ts.toNat ≤ 255 := by decide

/-- RequestPulseAtThePin. -/
theorem witness_request :
    ∃ s : State, BlockInv s ∧ s.regs.bg.state = .rate ∧ rateLimited s.params s.regs = false ∧
      QuietFor s (s.params.startHigh + s.params.reqLow + 1) := by
  refine ⟨_, ?_, ?_, ?_, quiet_replicate (bgAt .rate) 19001⟩
  · constructor <;> decide
  all_goals decide

/-- CaptureAlwaysEnds. -/
theorem witness_capture_run :
    ∃ s : State, BlockInv s ∧ s.regs.bg.state = .cap ∧ s.regs.cap.idx = 0 ∧ s.regs.cap.unch = 0 ∧
      QuietFor s (85 * s.params.maxUnchanged) := by
  refine ⟨_, ?_, ?_, ?_, ?_, quiet_replicate (bgAt .cap) 8500⟩
  · constructor <;> decide
  all_goals decide

/-- FrameBitsAreThresholdedDurations, OneFlippedDurationIsDetected: frame F1 and F1 with its first bit
flipped (FX). -/
theorem witness_flip :
    testParams.bitBase + 78 < 84 ∧ checksumOk (decodeFrame testParams pulsesF1) = true ∧
    frameBit testParams (pulsesF1.set 4 70) 0 = !frameBit testParams pulsesF1 0 := by decide

theorem witness_flip_others (i : Nat) (h : i ≠ testParams.bitBase + 2 * 0) :
    capRead (pulsesF1.set 4 70) i = capRead pulsesF1 i := by
  have h4 : 4 ≠ i := fun e => h e.symm
  simp [capRead, List.getD_eq_getElem?_getD, List.getElem?_set_ne h4]

/-- ReadingChangesOnlyOnSuccess, DecodeRoundTrip: the decode of frame F1. -/
theorem witness_round_trip :
    let s := decAt pulsesF1
    s.input.rst = false ∧ (∃ t, step s = .next t ∧ t.regs.sn ≠ s.regs.sn) ∧ s.regs.bg.state = .dec ∧
    s.regs.cap.overrun = false ∧ s.regs.cap.idx = 84 ∧
    (0x2D : Byte) + 0x00 + 0x17 + 0x00 = 0x44 ∧
    ∀ j, j < 40 → (s.params.bitThreshold < (capRead s.regs.cap.d (s.params.bitBase + 2 * j)).toNat ↔
      ((0x2D : Byte) ++ (0x00 : Byte) ++ (0x17 : Byte) ++ (0x00 : Byte) ++ (0x44 : Byte)).getLsbD (39 - j)
        = true) :=
  ⟨by decide, ⟨_, rfl, by decide⟩, by decide, by decide, by decide, by decide, by decide⟩

/-- ModeChangeLeavesADwell: key `C` dispatched in a Natural ON dwell and in an OFF dwell. -/
theorem witness_mode_change :
    let s (x : BgState) : State :=
      { keyAt 0x1B (fun r => { r with bg := { state := x, md := .natural, spd := 60, tmr := 5 },
                                      cs := { r.cs with mode := .natural }, tripped := false }) with
        env := [idle, idle] }
    BlockInv (s .dwellOn) ∧ BlockInv (s .dwellOff) ∧ QuietFor (s .dwellOn) 2 ∧
    dispatchedAction (s .dwellOn) = some (.setMode .sleep) ∧
    (s .dwellOff).regs.cs.mode = (s .dwellOff).regs.bg.md ∧ (s .dwellOff).regs.bg.tmr ≠ 0 := by
  refine ⟨?_, ?_, ?_⟩
  · constructor <;> decide
  · constructor <;> decide
  · decide

/-- OnStepLastsTheDwell: a pattern step with a dwell of one cycle. -/
def shortDwell : State :=
  { engineAt .pattern .natural .natural 60 0 with
    params := { testParams with dwellNatural := 1 }, env := [idle, idle, idle] }

theorem witness_on_step :
    BlockInv shortDwell ∧ patternAt shortDwell.regs = true ∧ shortDwell.regs.bg.md = .natural ∧
    dwellLength shortDwell.params .natural = 1 ∧ QuietFor shortDwell 3 := by
  refine ⟨?_, ?_⟩
  · constructor <;> decide
  · decide

theorem witness_on_step_mode :
    ∀ j u, j ≤ 2 → run j shortDwell = .next u → u.regs.cs.mode = .natural := by
  intro j u hj h
  match j, hj with
  | 0, _ => cases h; rfl
  | 1, _ => cases h; rfl
  | 2, _ => cases h; rfl

/-- TripHoldsThroughTheCoolDown: a trip with a cool-down of two cycles, run past the cool-down into the next
measurement. -/
def shortCool : State :=
  { bgAt .interlock with params := { testParams with cooldown := 2 }, env := List.replicate 6 idle }

theorem witness_trip_run :
    BlockInv shortCool ∧ tripsAt shortCool.regs = true ∧ shortCool.params.cooldown + 3 = 5 ∧
    QuietFor shortCool 6 := by
  refine ⟨?_, ?_⟩
  · constructor <;> decide
  · decide

theorem witness_trip_run_no_pass :
    ∀ k u, 1 ≤ k → k < 6 → run k shortCool = .next u → passesAt u.regs = false := by
  intro k u hk h6 h
  match k, h6 with
  | 0, _ => cases hk
  | 1, _ => cases h; rfl
  | 2, _ => cases h; rfl
  | 3, _ => cases h; rfl
  | 4, _ => cases h; rfl
  | 5, _ => cases h; rfl

/-- EveryIterationEnds. -/
theorem witness_iteration :
    ∃ s : State, BlockInv s ∧ s.regs.bg.state = .start ∧ QuietFor s 10027504 := by
  refine ⟨_, ?_, ?_, quiet_replicate (st id) 10027504⟩
  · constructor <;> decide
  · decide

/-- The bound of EveryIterationEnds for the default parameters. -/
theorem witness_iteration_bound :
    1 + (2 + testParams.startHigh + testParams.reqLow + 85 * testParams.maxUnchanged) + 1 +
      max testParams.cooldown (2 + 2 * max testParams.dwellNatural testParams.dwellSleep) = 10027504 := by
  simp [testParams, defaultParams]

/-- BackgroundIgnoresTheKeypad: two states that differ in the keypad, its columns and FG's state. -/
theorem witness_background :
    let s₁ := bgAt .cap
    let s₂ : State := { s₁ with regs := (s₁.regs.setResult 0x10).fgGoto .sample,
                                env := [{ idle with col := 0b1110 }] }
    s₁.input.rst = false ∧ s₂.input.rst = false ∧
    (∃ t, step s₁ = .next t) ∧ (∃ t, step s₂ = .next t) ∧
    s₁.input.data = s₂.input.data ∧ s₁.regs.fg ≠ s₂.regs.fg ∧ s₁.regs.bg = s₂.regs.bg :=
  ⟨by decide, by decide, ⟨_, rfl⟩, ⟨_, rfl⟩, by decide, by decide, by decide⟩

/-- ForegroundIgnoresTheEngine: two states that differ in BG's state and in the stored reading. -/
theorem witness_foreground :
    let s₁ := keyAt 0x11
    let s₂ := keyAt 0x11 fun r => ((r.bgGoto .cool).setTripped false).report .checksum
    s₁.input.rst = false ∧ s₂.input.rst = false ∧
    (∃ t, step s₁ = .next t) ∧ (∃ t, step s₂ = .next t) ∧
    s₁.input.col = s₂.input.col ∧ s₁.regs.bg ≠ s₂.regs.bg ∧ s₁.regs.kp = s₂.regs.kp ∧
    s₁.regs.fg = s₂.regs.fg :=
  ⟨by decide, by decide, ⟨_, rfl⟩, ⟨_, rfl⟩, by decide, by decide, by decide, by decide⟩

end Sys2Proof.Tests
end

section
/-! The check of a parameter set (spec/00_scope.md R7), one equivalence per group of its conditions. -/

namespace Sys2Proof.Machine

/-- R7: the matrix size, the settle count, the stall limit and the reset threshold. -/
theorem boundsWf_iff (p : Params) :
    boundsWf p = true ↔
      p.rows = 4 ∧ p.cols = 4 ∧ p.rowSettle ≤ 256 ∧ 1 ≤ p.maxUnchanged ∧ p.maxUnchanged ≤ 255 ∧
        p.thrReset ≤ 255 := by
  simp only [boundsWf, Bool.and_eq_true, decide_eq_true_eq, and_assoc]

/-- The bounds of the registers' widths and of R83 (log entry 15). -/
theorem widthsWf_iff (p : Params) :
    widthsWf p = true ↔
      p.expected ≤ 127 ∧ p.bitBase + 78 < p.expected ∧ p.dutyFull ≤ 65535 ∧
        0 ∈ p.speedSet ∧ ∀ v ∈ p.speedSet, v ≤ 100 := by
  simp only [widthsWf, Bool.and_eq_true, List.contains_iff_mem, List.all_eq_true,
    decide_eq_true_eq, and_assoc]

/-- The parameters of a set that count cycles on the shared timer (R7). -/
def timerDurations (p : Params) : List Nat :=
  [p.startHigh, p.reqLow, p.debounce, p.minInterval, p.cooldown, p.dwellNatural, p.dwellSleep]

/-- R7: the lower bounds of the durations, and the shared timer's 24 bits above each; `durationsWf` tests the
two sides duration by duration. -/
theorem durationsWf_iff (p : Params) :
    durationsWf p = true ↔
      1 ≤ p.startHigh ∧ 18000 ≤ p.reqLow ∧ 1 ≤ p.debounce ∧ 1 ≤ p.cooldown ∧ 1 ≤ p.dwellNatural ∧
        1 ≤ p.dwellSleep ∧ ∀ d ∈ timerDurations p, d < 2 ^ 24 := by
  simp only [durationsWf, belowTimer, timerDurations, Bool.and_eq_true, decide_eq_true_eq,
    List.forall_mem_cons, List.not_mem_nil, false_implies, implies_true, and_true]
  tauto

/-- R7, R108: the action table is checked cell by cell. -/
theorem actionsWf_iff (p : Params) :
    actionsWf p = true ↔ ∀ cell : Fin 16, actionLegal p.speedSet p.action[cell.val] = true := by
  simp only [actionsWf, List.all_eq_true, Vector.mem_toList_iff, Vector.forall_mem_iff_forall_getElem]
  exact ⟨fun h cell => h cell.val cell.isLt, fun h i hi => h ⟨i, hi⟩⟩

/-- A set is well formed exactly if each of the five groups of conditions is. -/
theorem paramsWf_iff (p : Params) :
    paramsWf p = true ↔
      boundsWf p = true ∧ widthsWf p = true ∧ durationsWf p = true ∧ actionsWf p = true ∧
        symbolsWf p = true := by
  simp only [paramsWf, Bool.and_eq_true, and_assoc]

/-- Settles O5: the groups of conditions, each written out by its equivalence, in the order of the check. -/
theorem acceptedParameterSets : Obligations.AcceptedParameterSets := by
  intro p
  rw [paramsWf_iff, boundsWf_iff, widthsWf_iff, durationsWf_iff, actionsWf_iff]
  simp only [timerDurations, and_assoc]

end Sys2Proof.Machine
end

section
/-! The moves of the two agents: every branch of an agent's step with the condition that takes it
(spec/40_keypad_scanner.md, spec/41_sensor_decoder.md, spec/42_dispatcher.md, spec/43_wind_engine.md), so that a
proof about a cycle names the branches that matter to it and no others. -/

namespace Sys2Proof.Machine

/-! ## Agent FG -/

/-- The moves of FG from registers `r`: a scan's move dispatches no action (`none`), a dispatch's move is the
action it executes. -/
inductive FgMove (p : Params) (i : Input) (r : Regs) : Option Action → Regs → Prop
  /-- R141 -/
  | suppress (hs : r.fg.state = .check) (hw : suppressed p r = true) : FgMove p i r none (scanSuppressed r)
  /-- R142 -/
  | scanStart (hs : r.fg.state = .check) (hw : suppressed p r = false) : FgMove p i r none (startRow p 0 r)
  /-- R143, the count is over -/
  | settle (hs : r.fg.state = .wait) (hc : settled r = true) : FgMove p i r none (r.fgGoto .sample)
  /-- R143, the count goes on -/
  | wait (hs : r.fg.state = .wait) (hc : settled r = false) :
      FgMove p i r none { r with fg := { r.fg with wcnt := r.fg.wcnt - 1 } }
  /-- R145 -/
  | detect (c : BitVec 2) (hs : r.fg.state = .sample) (hc : firstActiveColumn p i.col = some c) :
      FgMove p i r none (scanMatch p c r)
  /-- R146 -/
  | noKey (hs : r.fg.state = .sample) (hc : firstActiveColumn p i.col = none) (hl : lastRow r = true) :
      FgMove p i r none (scanNoKey p r)
  /-- R147 -/
  | nextRow (hs : r.fg.state = .sample) (hc : firstActiveColumn p i.col = none) (hl : lastRow r = false) :
      FgMove p i r none (startRow p (r.fg.row + 1) r)
  /-- R220 -/
  | act (a : Action) (hs : r.fg.state = .dispatch) (hw : a.wf p.speedSet = true) :
      FgMove p i r (some a) (doAction p a r)

theorem scanCheck_move {p : Params} {i : Input} {r : Regs} (hs : r.fg.state = .check) :
    FgMove p i r none (scanCheck p r) := by
  unfold scanCheck
  cases hw : suppressed p r with
  | true => exact .suppress hs hw
  | false => exact .scanStart hs hw

theorem scanWait_move {p : Params} {i : Input} {r : Regs} (hs : r.fg.state = .wait) :
    FgMove p i r none (scanWait r) := by
  unfold scanWait
  cases hc : settled r with
  | true => exact .settle hs hc
  | false => exact .wait hs hc

theorem scanSample_move {p : Params} {i : Input} {r : Regs} (hs : r.fg.state = .sample) :
    FgMove p i r none (scanSample p i r) := by
  unfold scanSample
  cases hc : firstActiveColumn p i.col with
  | some c => exact .detect c hs hc
  | none =>
    cases hl : lastRow r with
    | true => exact .noKey hs hc hl
    | false => exact .nextRow hs hc hl

/-- Outside `F_DISPATCH` no action is dispatched. -/
theorem dispatchedAction_of_scanning {s : State} (h : s.regs.fg.state ≠ .dispatch) :
    dispatchedAction s = none := by
  simp [dispatchedAction, h]

/-- A dispatch that completes executes the dispatched action, a well-formed one. -/
theorem fgStep_dispatched {s t : State} (hs : s.regs.fg.state = .dispatch) (h : fgStep s = .next t) :
    ∃ a, dispatchedAction s = some a ∧ a.wf s.params.speedSet = true ∧
      t = s.onRegs (doAction s.params a) := by
  rw [fgStep_dispatch hs] at h
  unfold fgDispatch fetchInstr decodeKeycode at h
  unfold dispatchedAction
  by_cases h0 : s.regs.kp.res = 0
  · rw [if_pos (show s.regs.kp.res = keycodeNone from h0)] at h
    have ht := (runAction_next (a := .nop) h).2
    exact ⟨.nop, by rw [if_pos hs, if_pos h0], rfl, ht⟩
  · rw [if_neg (show ¬ s.regs.kp.res = keycodeNone from h0)] at h
    by_cases h4 : s.regs.kp.res.getLsbD 4 = true
    · simp only [h4, if_true, exec_keyInstr] at h
      obtain ⟨a, ha, ht⟩ := runActionWord_next h
      exact ⟨a, by rw [if_pos hs, if_neg h0, if_pos h4, ha], decodeAction_wf ha, ht⟩
    · rw [if_neg h4] at h
      cases h

/-- FG's step is one of its moves. -/
theorem fgStep_move {s t : State} (h : fgStep s = .next t) :
    FgMove s.params s.input s.regs (dispatchedAction s) t.regs := by
  rcases fgStep_cases h with ⟨hs, rfl⟩ | ⟨hs, rfl⟩ | ⟨hs, rfl⟩ | ⟨hs, _⟩
  · rw [dispatchedAction_of_scanning (by simp [hs])]
    exact scanCheck_move hs
  · rw [dispatchedAction_of_scanning (by simp [hs])]
    exact scanWait_move hs
  · rw [dispatchedAction_of_scanning (by simp [hs])]
    exact scanSample_move hs
  · obtain ⟨a, ha, hw, rfl⟩ := fgStep_dispatched hs h
    rw [ha]
    exact .act a hs hw

/-! ## Agent BG -/

/-- The moves of BG from registers `r`; `n` is the index of the cycle's free values. -/
inductive BgMove (p : Params) (i : Input) (n : Nat) (r : Regs) : Regs → Prop
  /-- R240 -/
  | latch (hs : r.bg.state = .start) : BgMove p i n r (engineStart r)
  /-- R171 -/
  | cached (hs : r.bg.state = .rate) (hl : rateLimited p r = true) : BgMove p i n r (r.bgGoto .interlock)
  /-- R172 -/
  | request (hs : r.bg.state = .rate) (hl : rateLimited p r = false) : BgMove p i n r (requestStart p r)
  /-- R173, R174, R245, R248, R250: a hold goes on -/
  | tick (hs : r.bg.state ∈ [BgState.high, .low, .cool, .dwellOn, .dwellOff]) (ht : r.bg.tmr ≠ 0) :
      BgMove p i n r r.tickTimer
  /-- R173 -/
  | pullLow (hs : r.bg.state = .high) (ht : r.bg.tmr = 0) :
      BgMove p i n r (((r.driveData r.out.dataOe false).setTimer (timerLoad p.reqLow)).bgGoto .low)
  /-- R176 -/
  | release (hs : r.bg.state = .low) (ht : r.bg.tmr = 0) : BgMove p i n r (captureStart r)
  /-- R178 -/
  | record (hs : r.bg.state = .cap) (hd : i.data ≠ r.cap.val) (hl : r.cap.idx.toNat < p.expected) :
      BgMove p i n r (captureRecord i r)
  /-- R179 -/
  | overrun (hs : r.bg.state = .cap) (hd : i.data ≠ r.cap.val) (hl : p.expected ≤ r.cap.idx.toNat) :
      BgMove p i n r (captureOverrun r)
  /-- R180, the stall -/
  | stall (hs : r.bg.state = .cap) (hd : i.data = r.cap.val) (hu : r.cap.unch.toNat = p.maxUnchanged - 1) :
      BgMove p i n r (r.bgGoto .dec)
  /-- R180, no stall yet -/
  | unchanged (hs : r.bg.state = .cap) (hd : i.data = r.cap.val) (hu : r.cap.unch.toNat ≠ p.maxUnchanged - 1) :
      BgMove p i n r { r with cap := { r.cap with unch := r.cap.unch + 1 } }
  /-- R182 -/
  | badCount (hs : r.bg.state = .dec) (hc : countWrong p r = true) :
      BgMove p i n r ((r.report .pulseCount).bgGoto .interlock)
  /-- R183 -/
  | store (hs : r.bg.state = .dec) (hc : countWrong p r = false)
      (hk : checksumOk (decodeFrame p r.cap.d) = true) :
      BgMove p i n r (((storeReading (decodeFrame p r.cap.d) r).report .ok).bgGoto .interlock)
  /-- R184 -/
  | badChecksum (hs : r.bg.state = .dec) (hc : countWrong p r = false)
      (hk : checksumOk (decodeFrame p r.cap.d) = false) :
      BgMove p i n r ((r.report .checksum).bgGoto .interlock)
  /-- R243 -/
  | trip (hs : r.bg.state = .interlock) (ht : tripNow r = true) : BgMove p i n r (interlockTrip p r)
  /-- R244 -/
  | pass (hs : r.bg.state = .interlock) (ht : tripNow r = false) :
      BgMove p i n r ((r.setTripped false).bgGoto .pattern)
  /-- R245 -/
  | coolOver (hs : r.bg.state = .cool) (ht : r.bg.tmr = 0) : BgMove p i n r (r.bgGoto .start)
  /-- R246, R248 to R250: the mode has changed -/
  | abort (hs : r.bg.state ∈ [BgState.pattern, .dwellOn, .off, .dwellOff]) (hm : r.cs.mode ≠ r.bg.md) :
      BgMove p i n r (r.bgGoto .start)
  /-- R246, mode Unset -/
  | showOnly (hs : r.bg.state = .pattern) (hm : r.cs.mode = r.bg.md) (hmd : r.bg.md = .unset) :
      BgMove p i n r ((r.refresh false).bgGoto .start)
  /-- R246, mode Normal -/
  | driveOnce (hs : r.bg.state = .pattern) (hm : r.cs.mode = r.bg.md) (hmd : r.bg.md = .normal) :
      BgMove p i n r ((dutyOn p r).bgGoto .start)
  /-- R246, R247: modes Natural and Sleep -/
  | driveDwell (hs : r.bg.state = .pattern) (hm : r.cs.mode = r.bg.md)
      (hmd : r.bg.md = .natural ∨ r.bg.md = .sleep) :
      BgMove p i n r (((dutyOn p r).setTimer (dwellLoad p n r.bg.md)).bgGoto .dwellOn)
  /-- R248 -/
  | onOver (hs : r.bg.state = .dwellOn) (hm : r.cs.mode = r.bg.md) (ht : r.bg.tmr = 0) :
      BgMove p i n r (r.bgGoto .off)
  /-- R249 -/
  | stop (hs : r.bg.state = .off) (hm : r.cs.mode = r.bg.md) :
      BgMove p i n r ((((r.writeDuty (dutyCode p 0)).refresh false).setTimer
        (dwellLoad p n r.bg.md)).bgGoto .dwellOff)
  /-- R250 -/
  | offOver (hs : r.bg.state = .dwellOff) (hm : r.cs.mode = r.bg.md) (ht : r.bg.tmr = 0) :
      BgMove p i n r (r.bgGoto .start)

section
variable {p : Params} {i : Input} {n : Nat} {r : Regs}

theorem timerDone_iff : timerDone r = true ↔ r.bg.tmr = 0 := by simp [timerDone]

theorem modeChanged_iff : modeChanged r = true ↔ r.cs.mode ≠ r.bg.md := by simp [modeChanged]

theorem senseRate_move (hs : r.bg.state = .rate) : BgMove p i n r (senseRate p r) := by
  unfold senseRate
  cases hl : rateLimited p r with
  | true => exact .cached hs hl
  | false => exact .request hs hl

theorem senseHigh_move (hs : r.bg.state = .high) : BgMove p i n r (senseHigh p r) := by
  unfold senseHigh
  split <;> rename_i ht <;> rw [timerDone_iff] at ht
  · exact .pullLow hs ht
  · exact .tick (by simp [hs]) ht

theorem senseLow_move (hs : r.bg.state = .low) : BgMove p i n r (senseLow r) := by
  unfold senseLow
  split <;> rename_i ht <;> rw [timerDone_iff] at ht
  · exact .release hs ht
  · exact .tick (by simp [hs]) ht

theorem captureUnchanged_move (hs : r.bg.state = .cap) (hd : i.data = r.cap.val) :
    BgMove p i n r (captureUnchanged p r) := by
  unfold captureUnchanged stalled
  split <;> rename_i hu <;> rw [decide_eq_true_eq] at hu
  · exact .stall hs hd hu
  · exact .unchanged hs hd hu

theorem senseCapture_move (hs : r.bg.state = .cap) : BgMove p i n r (senseCapture p i r) := by
  unfold senseCapture isTransition captureRoom
  split <;> rename_i hd
  · have hd' : i.data ≠ r.cap.val := by simpa using hd
    split <;> rename_i hl <;> rw [decide_eq_true_eq] at hl
    · exact .record hs hd' hl
    · exact .overrun hs hd' (Nat.le_of_not_lt hl)
  · exact captureUnchanged_move hs (by simpa using hd)

theorem senseDecode_move (hs : r.bg.state = .dec) : BgMove p i n r (senseDecode p r) := by
  unfold senseDecode
  cases hc : countWrong p r with
  | true => exact .badCount hs hc
  | false =>
    dsimp only
    cases hk : checksumOk (decodeFrame p r.cap.d) with
    | true => exact .store hs hc hk
    | false => exact .badChecksum hs hc hk

theorem engineInterlock_move (hs : r.bg.state = .interlock) : BgMove p i n r (engineInterlock p r) := by
  unfold engineInterlock
  rw [trips_eq]
  cases ht : tripNow r with
  | true => exact .trip hs ht
  | false => exact .pass hs ht

theorem engineCool_move (hs : r.bg.state = .cool) : BgMove p i n r (engineCool r) := by
  unfold engineCool
  split <;> rename_i ht <;> rw [timerDone_iff] at ht
  · exact .coolOver hs ht
  · exact .tick (by simp [hs]) ht

theorem enginePattern_move (hs : r.bg.state = .pattern) : BgMove p i n r (enginePattern p n r) := by
  unfold enginePattern
  split <;> rename_i hm <;> rw [modeChanged_iff] at hm
  · exact .abort (by simp [hs]) hm
  · rw [not_not] at hm
    split <;> rename_i hmd
    · exact .showOnly hs hm hmd
    · exact .driveOnce hs hm hmd
    · exact hmd ▸ .driveDwell hs hm (.inl hmd)
    · exact hmd ▸ .driveDwell hs hm (.inr hmd)

theorem engineDwellOn_move (hs : r.bg.state = .dwellOn) : BgMove p i n r (engineDwellOn r) := by
  unfold engineDwellOn
  split <;> rename_i hm <;> rw [modeChanged_iff] at hm
  · exact .abort (by simp [hs]) hm
  · split <;> rename_i ht <;> rw [timerDone_iff] at ht
    · exact .onOver hs (not_not.mp hm) ht
    · exact .tick (by simp [hs]) ht

theorem engineOff_move (hs : r.bg.state = .off) : BgMove p i n r (engineOff p n r) := by
  unfold engineOff
  split <;> rename_i hm <;> rw [modeChanged_iff] at hm
  · exact .abort (by simp [hs]) hm
  · exact .stop hs (not_not.mp hm)

theorem engineDwellOff_move (hs : r.bg.state = .dwellOff) : BgMove p i n r (engineDwellOff r) := by
  unfold engineDwellOff
  split <;> rename_i hm <;> rw [modeChanged_iff] at hm
  · exact .abort (by simp [hs]) hm
  · split <;> rename_i ht <;> rw [timerDone_iff] at ht
    · exact .offOver hs (not_not.mp hm) ht
    · exact .tick (by simp [hs]) ht

end

/-- BG's step is one of its moves. -/
theorem bgStep_move (s : State) : BgMove s.params s.input s.envCycle s.regs (bgStep s) := by
  unfold bgStep
  split <;> rename_i hs
  · exact .latch hs
  · exact senseRate_move hs
  · exact senseHigh_move hs
  · exact senseLow_move hs
  · exact senseCapture_move hs
  · exact senseDecode_move hs
  · exact engineInterlock_move hs
  · exact engineCool_move hs
  · exact enginePattern_move hs
  · exact engineDwellOn_move hs
  · exact engineOff_move hs
  · exact engineDwellOff_move hs

/-! ## The cycle -/

/-- A step without reset: one move of each agent from the registers with the strobes at 0, merged. -/
theorem step_moves {s t : State} (h : step s = .next t) (hr : s.input.rst = false) :
    ∃ rF rB, FgMove s.params s.input s.regs.clearStrobes (dispatchedAction s) rF ∧
      BgMove s.params s.input s.envCycle s.regs.clearStrobes rB ∧ t.regs = mergeRegs rF rB := by
  obtain ⟨sF, hF, _, ht, _⟩ := step_regs h hr
  exact ⟨sF.regs, bgStep s.startCycle, fgStep_move hF, bgStep_move s.startCycle, ht⟩

/-- The registers after a step that completes: the reset values, or a merge of one move of each agent. -/
theorem step_reset_or_moves {s t : State} (h : step s = .next t) :
    t.regs = resetRegs s.params ∨
    ∃ rF rB, FgMove s.params s.input s.regs.clearStrobes (dispatchedAction s) rF ∧
      BgMove s.params s.input s.envCycle s.regs.clearStrobes rB ∧ t.regs = mergeRegs rF rB := by
  obtain ⟨_, ⟨_, rfl⟩ | ⟨hr, _⟩⟩ := step_cases h
  · exact .inl rfl
  · exact .inr (step_moves h hr)

end Sys2Proof.Machine
end

section
/-! Which registers a cycle writes, and in which state of the agent: the frames of the moves (spec/10_state.md
R32 to R53), and the statements about them. -/

namespace Sys2Proof.Machine

/-! ## BG's registers (R42 to R51) -/

namespace BgMove
variable {p : Params} {i : Input} {n : Nat} {r r' : Regs}

/-- R42: only `B_START` latches the mode and the speed. -/
theorem latched_frame (h : BgMove p i n r r') (hs : r.bg.state ≠ .start) :
    r'.bg.md = r.bg.md ∧ r'.bg.spd = r.bg.spd := by
  cases h with
  | latch h => exact absurd h hs
  | _ => exact ⟨rfl, rfl⟩

/-- R45, R46: only the release of the pin and a sample of the capture write the capture registers. -/
theorem cap_frame (h : BgMove p i n r r') (hl : r.bg.state ≠ .low) (hc : r.bg.state ≠ .cap) :
    r'.cap = r.cap := by
  cases h with
  | release h => exact absurd h hl
  | record h | overrun h | unchanged h => exact absurd h hc
  | _ => rfl

/-- R44, R47, R49: only `S_DEC` writes the stored reading and the status. -/
theorem sn_frame (h : BgMove p i n r r') (hs : r.bg.state ≠ .dec) : r'.sn = r.sn := by
  cases h with
  | badCount h | store h | badChecksum h => exact absurd h hs
  | _ => rfl

/-- R43: only `B_INTERLOCK` writes the interlock flag. -/
theorem tripped_frame (h : BgMove p i n r r') (hs : r.bg.state ≠ .interlock) : r'.tripped = r.tripped := by
  cases h with
  | trip h | pass h => exact absurd h hs
  | _ => rfl

/-- R51, R190: only the request's start, its low phase and the release write the data pin. -/
theorem pin_frame (h : BgMove p i n r r') (hr : r.bg.state ≠ .rate) (hh : r.bg.state ≠ .high)
    (hl : r.bg.state ≠ .low) : r'.out.dataOe = r.out.dataOe ∧ r'.out.dataOut = r.out.dataOut := by
  cases h with
  | request h => exact absurd h hr
  | pullLow h => exact absurd h hh
  | release h => exact absurd h hl
  | _ => exact ⟨rfl, rfl⟩

/-- R243, R244: the interlock flag after a move. -/
theorem tripped_eq (h : BgMove p i n r r') :
    r'.tripped = if tripsAt r then true else if passesAt r then false else r.tripped := by
  by_cases hs : r.bg.state = .interlock
  · cases h with
    | trip _ ht => simp [tripsAt, hs, ht, interlockTrip]
    | pass _ ht => simp [tripsAt, passesAt, hs, ht]
    | _ => simp_all
  · rw [h.tripped_frame hs]
    simp [tripsAt, passesAt, hs]

end BgMove

/-- Settles O60: the frame of each register group. -/
theorem backgroundRegistersChangeOnlyInTheirStates :
    Obligations.BackgroundRegistersChangeOnlyInTheirStates := by
  intro s t hr h
  obtain ⟨rF, rB, _, hB, ht⟩ := step_moves h hr
  rw [ht]
  exact ⟨hB.latched_frame, hB.cap_frame, hB.sn_frame, hB.tripped_frame, hB.pin_frame⟩

/-- Settles O51: the interlock flag is BG's, and clearing the strobes changes no condition of the check. -/
theorem interlockFlagChangesOnlyAtTheCheck : Obligations.InterlockFlagChangesOnlyAtTheCheck := by
  intro s t hr h
  obtain ⟨rF, rB, _, hB, ht⟩ := step_moves h hr
  rw [ht]
  exact hB.tripped_eq

/-! ## The control state (R32 to R34) -/

/-- A scan's move leaves the control state. -/
theorem FgMove.cs_of_scan {p : Params} {i : Input} {r r' : Regs} (h : FgMove p i r none r') :
    r'.cs = r.cs := by
  cases h <;> rfl

/-- A dispatch's move leaves the control state as its action does. -/
theorem FgMove.cs_of_act {p : Params} {i : Input} {r r' : Regs} {a : Action} (h : FgMove p i r (some a) r') :
    r'.cs = (doAction p a r).cs := by
  cases h
  rfl

/-- `arg[6:0]` of R116, as a bit extraction. -/
theorem speedOperand_eq (v : Byte) : speedOperand v = v.extractLsb' 0 7 :=
  BitVec.setWidth_eq_extractLsb' (by decide)

/-- Settles O14: by the action of the cycle's FG move. -/
theorem controlStateChangesOnlyByDispatch : Obligations.ControlStateChangesOnlyByDispatch := by
  intro s t hr h
  obtain ⟨rF, rB, hF, _, ht⟩ := step_moves h hr
  rw [ht, mergeRegs_cs]
  cases hc : dispatchedAction s with
  | none =>
    rw [hc] at hF
    exact hF.cs_of_scan
  | some a =>
    rw [hc] at hF
    rw [hF.cs_of_act, doAction_cs]
    cases a with
    | setSpeed v => simp [speedOperand_eq]
    | nop | setMode m | setThr v => rfl

/-! ## The timebase and the enable (R31, R53) -/

/-- Settles O23: a reset writes 0 to both; a cycle's merge counts and enables. -/
theorem timebaseCountsAndMotorIsEnabled : Obligations.TimebaseCountsAndMotorIsEnabled := by
  intro s t h
  refine ⟨(step_env h).1, fun hr => ?_, fun hr => ?_⟩
  · obtain ⟨sF, _, _, ht, hnow⟩ := step_regs h hr
    exact ⟨hnow, by rw [ht, mergeRegs_en]⟩
  · obtain ⟨_, ⟨_, rfl⟩ | ⟨hr', _⟩⟩ := step_cases h
    · exact ⟨rfl, rfl⟩
    · rw [hr] at hr'
      cases hr'

/-! ## The rows (R50, R153) -/

/-- The start of a row drives exactly that row and goes on to its wait or its sample. -/
theorem rowsMatch_startRow (p : Params) (x : BitVec 2) (r : Regs) : RowsMatch p (startRow p x r) := by
  unfold startRow
  by_cases hw : 0 < p.rowSettle <;> simp [RowsMatch, hw]

/-- FG's moves keep the rows idle outside a scan and exactly the scanned row active in one. -/
theorem FgMove.rowsMatch {p : Params} {i : Input} {r r' : Regs} {c : Option Action}
    (h : FgMove p i r c r') (hr : RowsMatch p r) : RowsMatch p r' := by
  obtain ⟨hidle, hscan⟩ := hr
  cases h with
  | suppress hs | act a hs => simpa [RowsMatch, scanSuppressed] using hidle (by simp [hs])
  | scanStart | nextRow => exact rowsMatch_startRow p _ r
  | settle hs => simpa [RowsMatch] using hscan (by simp [hs])
  | wait hs => exact ⟨hidle, hscan⟩
  | detect | noKey => simp [RowsMatch, scanMatch, scanNoKey]

theorem rowsMatch_resetRegs (p : Params) : RowsMatch p (resetRegs p) := by
  simp [RowsMatch, resetRegs]

/-- Settles O29: the reset state has idle rows, and FG's moves keep the rows matched. -/
theorem rowsIdleOutsideAScan : Obligations.RowsIdleOutsideAScan := by
  intro s t h hrows
  rw [(step_env h).1]
  obtain ht | ⟨rF, rB, hF, _, ht⟩ := step_reset_or_moves h <;> rw [ht]
  · exact rowsMatch_resetRegs s.params
  · exact hF.rowsMatch hrows

end Sys2Proof.Machine
end

section
/-! The block's invariant, conjunct by conjunct: what a well-formed parameter set bounds, then for each conjunct of
`BlockInv` its preservation by the agent that owns its registers, then the reset state and the assembled step. -/

namespace Sys2Proof.Machine

/-! ## Bounds of a well-formed parameter set (R7) -/

/-- The lengths of the holds that the shared timer counts (R48). -/
def timerHolds (p : Params) : List Nat := [p.startHigh, p.reqLow, p.cooldown, p.dwellNatural, p.dwellSleep]

section
variable {p : Params} (hp : paramsWf p = true)
include hp

theorem expected_le_of_wf : p.expected ≤ 127 := by
  obtain ⟨_, hw, _⟩ := (paramsWf_iff p).mp hp
  exact ((widthsWf_iff p).mp hw).1

theorem zero_mem_speedSet_of_wf : 0 ∈ p.speedSet := by
  obtain ⟨_, hw, _⟩ := (paramsWf_iff p).mp hp
  obtain ⟨_, _, _, h0, _⟩ := (widthsWf_iff p).mp hw
  exact h0

theorem speed_le_of_wf {v : Nat} (hv : v ∈ p.speedSet) : v ≤ 100 := by
  obtain ⟨_, hw, _⟩ := (paramsWf_iff p).mp hp
  obtain ⟨_, _, _, _, hle⟩ := (widthsWf_iff p).mp hw
  exact hle v hv

theorem maxUnchanged_pos_of_wf : 1 ≤ p.maxUnchanged := by
  obtain ⟨hb, _⟩ := (paramsWf_iff p).mp hp
  obtain ⟨_, _, _, h1, _⟩ := (boundsWf_iff p).mp hb
  exact h1

theorem maxUnchanged_le_of_wf : p.maxUnchanged ≤ 255 := by
  obtain ⟨hb, _⟩ := (paramsWf_iff p).mp hp
  obtain ⟨_, _, _, _, h255, _⟩ := (boundsWf_iff p).mp hb
  exact h255

theorem rowSettle_le_of_wf : p.rowSettle ≤ 256 := by
  obtain ⟨hb, _⟩ := (paramsWf_iff p).mp hp
  obtain ⟨_, _, h256, _⟩ := (boundsWf_iff p).mp hb
  exact h256

/-- Every hold of the shared timer lasts at least one cycle and fits its 24 bits. -/
theorem hold_bounds_of_wf {d : Nat} (hm : d ∈ timerHolds p) : 1 ≤ d ∧ d < 2 ^ 24 := by
  obtain ⟨_, _, hd, _⟩ := (paramsWf_iff p).mp hp
  obtain ⟨hh, hl, _, hc, hn, hs, hlt⟩ := (durationsWf_iff p).mp hd
  have hsub : timerHolds p ⊆ timerDurations p := by simp [timerHolds, timerDurations]
  refine ⟨?_, hlt d (hsub hm)⟩
  simp only [timerHolds, List.mem_cons, List.not_mem_nil, or_false] at hm
  omega

end

/-! ## Loads of the counters (R48, R143) -/

theorem timerLoad_toNat {d : Nat} (h : d < 2 ^ 24) : (timerLoad d).toNat = d - 1 := by
  rw [timerLoad, BitVec.toNat_ofNat, Nat.mod_eq_of_lt (by omega)]

/-- A hold of `D` cycles is entered with a count below `D`. -/
theorem timerLoad_lt {p : Params} (hp : paramsWf p = true) {d : Nat} (hm : d ∈ timerHolds p) :
    (timerLoad d).toNat < d := by
  obtain ⟨h1, hlt⟩ := hold_bounds_of_wf hp hm
  rw [timerLoad_toNat hlt]
  omega

/-- The dwell of Natural and of Sleep, as the timer's load. -/
theorem dwellLoad_eq {p : Params} {n : Nat} {m : Mode} (hm : m = .natural ∨ m = .sleep) :
    dwellLoad p n m = timerLoad (dwellLength p m) := by
  rcases hm with rfl | rfl <;> rfl

theorem dwellLoad_lt {p : Params} (hp : paramsWf p = true) {n : Nat} {m : Mode}
    (hm : m = .natural ∨ m = .sleep) : (dwellLoad p n m).toNat < dwellLength p m := by
  rw [dwellLoad_eq hm]
  refine timerLoad_lt hp ?_
  rcases hm with rfl | rfl <;> simp [timerHolds, dwellLength]

theorem settleLoad_lt {p : Params} (hp : paramsWf p = true) (h0 : 0 < p.rowSettle) :
    (settleLoad p).toNat < p.rowSettle := by
  have := rowSettle_le_of_wf hp
  rw [settleLoad, BitVec.toNat_ofNat, Nat.mod_eq_of_lt (by omega)]
  omega

/-- A down-counter that is not 0 stays below any bound when it counts. -/
theorem toNat_sub_one_lt {w : Nat} {x : BitVec w} {b : Nat} (hx : x ≠ 0) (hb : x.toNat < b) :
    (x - 1).toNat < b := by
  have h1 : 1 ≤ x.toNat :=
    Nat.one_le_iff_ne_zero.mpr fun h => hx (BitVec.eq_of_toNat_eq (by simpa using h))
  have hw : 1 < 2 ^ w := by
    have := x.isLt
    omega
  rw [BitVec.toNat_sub_of_le (by simpa [BitVec.le_def, Nat.mod_eq_of_lt hw] using h1)]
  omega

/-- A counter below a bound that its width holds counts up by one. -/
theorem toNat_add_one {w : Nat} {x : BitVec w} {b : Nat} (hb : b < 2 ^ w) (hx : x.toNat < b) :
    (x + 1).toNat = x.toNat + 1 := by
  have h1 : (1 : BitVec w).toNat = 1 := by simp [Nat.mod_eq_of_lt (show 1 < 2 ^ w by omega)]
  rw [BitVec.toNat_add_of_lt (by omega), h1]

/-! ## Values that the moves write -/

/-- R102: a detected key's code has bit 4 set. -/
theorem keycode_getLsbD (x y : BitVec 2) : (keycode x y).getLsbD 4 = true := by
  revert x y
  decide

/-- R108: the percent that a well-formed `SET_SPEED` carries is written unchanged, a member of the set. -/
theorem speedOperand_toNat {p : Params} {v : Byte} (hp : paramsWf p = true) (hv : v.toNat ∈ p.speedSet) :
    (speedOperand v).toNat = v.toNat := by
  have := speed_le_of_wf hp hv
  rw [speedOperand, BitVec.toNat_setWidth, Nat.mod_eq_of_lt (by omega)]

/-- R186: the duration a transition records is the number of samples since the last one. -/
theorem pulseDuration_toNat {p : Params} {r : Regs} (hp : paramsWf p = true) (hs : r.bg.state = .cap)
    (hc : CaptureSound p r) :
    (pulseDuration r.now r.cap.ts).toNat = r.cap.unch.toNat + if r.cap.idx.toNat = 0 then 0 else 1 := by
  have hmax := maxUnchanged_le_of_wf hp
  obtain ⟨_, _, hlt, hnow⟩ := hc hs
  rw [pulseDuration, hnow, BitVec.toNat_setWidth, BitVec.toNat_ofNat]
  split <;> omega

/-! ## FG's conjuncts -/

namespace FgMove
variable {p : Params} {i : Input} {r r' : Regs} {c : Option Action}

/-- FG leaves the timebase, which the merge counts. -/
theorem now_eq (h : FgMove p i r c r') : r'.now = r.now := by
  cases h with
  | act a => exact doAction_now p a r
  | _ => rfl

/-- R103: a scan writes "no key" or a key's code. -/
theorem keyLegal (h : FgMove p i r c r') (hk : KeyLegal r) : KeyLegal r' := by
  cases h with
  | suppress | noKey => exact .inl rfl
  | detect => exact .inr (keycode_getLsbD _ _)
  | scanStart | settle | wait | nextRow => exact hk
  | act a => simpa [KeyLegal] using hk

/-- R143: the settle count is loaded below `P_ROW_SETTLE` and counts down to 0. -/
theorem waitBounded (h : FgMove p i r c r') (hp : paramsWf p = true) (hw : WaitBounded p r) :
    WaitBounded p r' := by
  have hstart (x : BitVec 2) : WaitBounded p (startRow p x r) := by
    by_cases h0 : 0 < p.rowSettle
    · simp [WaitBounded, startRow, h0, settleLoad_lt hp h0]
    · simp [WaitBounded, startRow, h0]
  cases h with
  | scanStart | nextRow => exact hstart _
  | wait hs hc => exact fun _ => toNat_sub_one_lt (by simpa [settled] using hc) (hw hs)
  | suppress | settle | detect | noKey | act => simp [WaitBounded, scanSuppressed, scanMatch, scanNoKey]

/-- R32: the control state's speed stays in `P_SPEED_SET`. -/
theorem speed_mem (h : FgMove p i r c r') (hp : paramsWf p = true) (hr : r.cs.speed.toNat ∈ p.speedSet) :
    r'.cs.speed.toNat ∈ p.speedSet := by
  cases c with
  | none => exact h.cs_of_scan ▸ hr
  | some a =>
    cases h with
    | act _ _ hw =>
      rw [doAction_cs]
      cases a with
      | setSpeed v =>
        have hv : v.toNat ∈ p.speedSet := by simpa [Action.wf, legalSpeed] using hw
        exact (speedOperand_toNat hp hv).symm ▸ hv
      | nop | setMode m | setThr v => exact hr

/-- R222: FG's motor command is the one it found or the push of a legal percent. -/
theorem dutyLegal (h : FgMove p i r c r') (hr : DutyLegal p r) : DutyLegal p r' := by
  cases h with
  | act a _ hw =>
    cases a with
    | setSpeed v =>
      have hv : v.toNat ∈ p.speedSet := by simpa [Action.wf, legalSpeed] using hw
      simp only [DutyLegal, doAction_mot]
      split
      · exact List.mem_map_of_mem hv
      · exact hr
    | nop | setMode m | setThr v => exact hr
  | _ => exact hr

/-- R222: while the interlock is tripped FG does not write the motor command. -/
theorem mot_of_tripped (h : FgMove p i r c r') (ht : r.tripped = true) : r'.mot = r.mot := by
  cases h with
  | act a =>
    cases a with
    | setSpeed v => simp [pushAllowed, ht]
    | nop | setMode m | setThr v => rfl
  | _ => rfl

end FgMove

/-! ## BG's conjuncts -/

namespace BgMove
variable {p : Params} {i : Input} {n : Nat} {r r' : Regs}

/-- R42: the latched speed stays in `P_SPEED_SET`. -/
theorem speed_mem (h : BgMove p i n r r') (hcs : r.cs.speed.toNat ∈ p.speedSet)
    (hbg : r.bg.spd.toNat ∈ p.speedSet) : r'.bg.spd.toNat ∈ p.speedSet := by
  cases h with
  | latch => exact hcs
  | _ => exact hbg

/-- R46: `CAP.idx` counts up only while there is room in the buffer. -/
theorem idx_le (h : BgMove p i n r r') (hp : paramsWf p = true) (hr : r.cap.idx.toNat ≤ p.expected) :
    r'.cap.idx.toNat ≤ p.expected := by
  have hb := expected_le_of_wf hp
  cases h with
  | release => exact Nat.zero_le _
  | record hs hd hl =>
    have : (r.cap.idx + 1).toNat = r.cap.idx.toNat + 1 := toNat_add_one (b := p.expected) (by omega) hl
    exact this ▸ hl
  | _ => exact hr

/-- R45: the buffer keeps its number of entries. -/
theorem cap_length (h : BgMove p i n r r') : r'.cap.d.length = r.cap.d.length := by
  cases h with
  | record => exact capWrite_length _ _ _
  | _ => rfl

/-- R289: BG writes the duty of the latched speed, or 0. -/
theorem dutyLegal (h : BgMove p i n r r') (hp : paramsWf p = true) (hs : r.bg.spd.toNat ∈ p.speedSet)
    (hr : DutyLegal p r) : DutyLegal p r' := by
  cases h with
  | trip | stop => exact List.mem_map_of_mem (zero_mem_speedSet_of_wf hp)
  | driveOnce | driveDwell => exact List.mem_map_of_mem hs
  | _ => exact hr

/-- R175, R190: the request's moves drive and release the pin; every other move finds it released and leaves
it so. -/
theorem pinMatch (h : BgMove p i n r r') (hr : PinMatch r) : PinMatch r' := by
  obtain ⟨hoe, hhigh, hlow⟩ := hr
  have released (hh : r.bg.state ≠ .high) (hl : r.bg.state ≠ .low) : r.out.dataOe = false := by
    simpa [hh, hl] using hoe
  cases h with
  | tick => exact ⟨hoe, hhigh, hlow⟩
  | request => simp [PinMatch, requestStart]
  | pullLow hs => simpa [PinMatch] using hoe.mpr (.inl hs)
  | release => simp [PinMatch, captureStart]
  | _ hs =>
    have hoff := released (fun e => by simp [e] at hs) (fun e => by simp [e] at hs)
    simp [PinMatch, hs, hoff, engineStart, captureRecord, captureOverrun, storeReading, interlockTrip, dutyOn]

/-- R254: the interlock is tripped in the cool-down, which only a trip enters, and open in the pattern step
and the dwells, which only a pass enters. -/
theorem tripped_of_state (h : BgMove p i n r r') (hr : InterlockHeld r) :
    (r'.bg.state = .cool → r'.tripped = true) ∧
    ((r'.bg.state = .pattern ∨ r'.bg.state = .dwellOn ∨ r'.bg.state = .off ∨ r'.bg.state = .dwellOff) →
      r'.tripped = false) := by
  obtain ⟨_, hcool, hopen⟩ := hr
  cases h with
  | tick | record | unchanged => exact ⟨hcool, hopen⟩
  | trip => simp [interlockTrip]
  | pass => simp
  | driveDwell hs | onOver hs | stop hs => simpa [dutyOn] using hopen (by simp [hs])
  | _ => simp [engineStart, requestStart, captureStart, captureOverrun]

/-- R254: a tripped interlock was tripped before, or the move writes the duty, as a trip does. -/
theorem tripped_before_or_wr (h : BgMove p i n r r') (ht : r'.tripped = true) :
    r.tripped = true ∨ r'.mot.wr = true := by
  cases h with
  | trip | driveOnce | driveDwell | stop => exact .inr rfl
  | pass => cases ht
  | _ => exact .inl ht

/-- R254: while the interlock is tripped BG drives no duty but 0. -/
theorem duty_of_tripped (h : BgMove p i n r r') (hr : InterlockHeld r) (ht : r'.tripped = true) :
    r'.mot.duty = 0 := by
  obtain ⟨hzero, _, hopen⟩ := hr
  cases h with
  | trip | stop => simp [interlockTrip]
  | pass => cases ht
  | driveOnce hs | driveDwell hs =>
    simp [dutyOn, hopen (.inl hs)] at ht
  | _ => exact hzero ht

/-- R249: only Natural and Sleep enter a dwell, and the latched mode stays in it. -/
theorem dwellMode (h : BgMove p i n r r') (hr : DwellMode r) : DwellMode r' := by
  cases h with
  | tick | record | unchanged => exact hr
  | driveDwell _ _ hmd => exact fun _ => hmd
  | onOver hs | stop hs => exact fun _ => hr (by simp [hs])
  | _ => simp [DwellMode, engineStart, requestStart, captureStart, captureOverrun, interlockTrip]

/-- R48: a hold is entered with its load and counts down to 0. -/
theorem timerBounded (h : BgMove p i n r r') (hp : paramsWf p = true) (hd : DwellMode r)
    (hr : TimerBounded p r) : TimerBounded p r' := by
  cases h with
  | tick _ ht =>
    obtain ⟨hhigh, hlow, hcool, hdwell⟩ := hr
    exact ⟨fun e => toNat_sub_one_lt ht (hhigh e), fun e => toNat_sub_one_lt ht (hlow e),
      fun e => toNat_sub_one_lt ht (hcool e), fun e => toNat_sub_one_lt ht (hdwell e)⟩
  | record | unchanged => exact hr
  | request => simpa [TimerBounded, requestStart] using timerLoad_lt hp (d := p.startHigh) (by simp [timerHolds])
  | pullLow => simpa [TimerBounded] using timerLoad_lt hp (d := p.reqLow) (by simp [timerHolds])
  | trip => simpa [TimerBounded, interlockTrip] using timerLoad_lt hp (d := p.cooldown) (by simp [timerHolds])
  | driveDwell _ _ hmd => simpa [TimerBounded, dutyOn] using dwellLoad_lt hp hmd
  | stop hs => simpa [TimerBounded] using dwellLoad_lt hp (hd (by simp [hs]))
  | _ => simp [TimerBounded, engineStart, captureStart, captureOverrun]

/-- R183: a reading is stored with a passing checksum and the status of a success, and both errors leave it. -/
theorem readingSound (h : BgMove p i n r r') (hr : ReadingSound r) : ReadingSound r' := by
  obtain ⟨hsum, hok⟩ := hr
  cases h with
  | store _ _ hk => exact ⟨fun _ => by simpa [checksumOk, storeReading] using hk, fun _ => rfl⟩
  | badCount | badChecksum => exact ⟨hsum, nofun⟩
  | _ => exact ⟨hsum, hok⟩

/-- R177, R180, R186: the release starts a sound capture; a recorded transition flips the level and restarts
the count of samples, an unchanged sample counts one more. -/
theorem captureSound (h : BgMove p i n r r') (hp : paramsWf p = true) (hr : CaptureSound p r) :
    CaptureSound p { r' with now := r.now + 1 } := by
  have hmax := maxUnchanged_le_of_wf hp
  have hpos := maxUnchanged_pos_of_wf hp
  have hexp := expected_le_of_wf hp
  cases h with
  | release => exact fun _ => ⟨rfl, rfl, hpos, by simp [captureStart]⟩
  | record hs hd hl =>
    obtain ⟨hover, hval, _, _⟩ := hr hs
    have hidx : (r.cap.idx + 1).toNat = r.cap.idx.toNat + 1 := toNat_add_one (b := p.expected) (by omega) hl
    have hlevel : i.data = decide ((r.cap.idx + 1).toNat % 2 = 0) := by
      rw [Bool.eq_not.mpr hd, hval, hidx, ← decide_not, decide_eq_decide]
      omega
    refine fun _ => ⟨hover, hlevel, hpos, ?_⟩
    change r.now + 1 - r.now = BitVec.ofNat 64 (0 + if (r.cap.idx + 1).toNat = 0 then 0 else 1)
    rw [hidx, if_neg (Nat.succ_ne_zero _), add_sub_cancel_left]
    rfl
  | unchanged hs hd hu =>
    obtain ⟨hover, hval, hlt, hnow⟩ := hr hs
    have hunch : (r.cap.unch + 1).toNat = r.cap.unch.toNat + 1 :=
      toNat_add_one (b := p.maxUnchanged) (by omega) hlt
    refine fun _ => ⟨hover, hval, ?_, ?_⟩
    · change (r.cap.unch + 1).toNat < p.maxUnchanged
      omega
    · change r.now + 1 - r.cap.ts =
        BitVec.ofNat 64 ((r.cap.unch + 1).toNat + if r.cap.idx.toNat = 0 then 0 else 1)
      rw [hunch, add_sub_right_comm, hnow, Nat.add_right_comm]
      exact (BitVec.ofNat_add _ 1).symm
  | tick hs => exact fun hc => by simp [show r.bg.state = .cap from hc] at hs
  | _ => simp [CaptureSound, engineStart, requestStart, captureOverrun, interlockTrip]

/-- R186: every entry a transition records is bounded by the stall limit, and entries are recorded once. -/
theorem durationsBounded (h : BgMove p i n r r') (hp : paramsWf p = true)
    (hlen : r.cap.d.length = p.expected) (hc : CaptureSound p r) (hr : DurationsBounded p r) :
    DurationsBounded p r' := by
  have hexp := expected_le_of_wf hp
  cases h with
  | release => exact fun _ => ⟨fun j hj => absurd hj (Nat.not_lt_zero j), fun h0 => absurd h0 (Nat.lt_irrefl 0)⟩
  | record hs hd hl =>
    have hidx : (r.cap.idx + 1).toNat = r.cap.idx.toNat + 1 := toNat_add_one (b := p.expected) (by omega) hl
    have hdur := pulseDuration_toNat hp hs hc
    obtain ⟨_, _, hunch, _⟩ := hc hs
    obtain ⟨hall, hfirst⟩ := hr (.inl hs)
    have hnew := capRead_capWrite_self (pulseDuration r.now r.cap.ts) (hlen ▸ hl)
    refine fun _ => ⟨fun j hj => ?_, fun _ => ?_⟩
    · change j < (r.cap.idx + 1).toNat at hj
      change (capRead (capWrite _ _ _) j).toNat ≤ _
      by_cases hj' : j = r.cap.idx.toNat
      · rw [hj', hnew, hdur]
        split <;> omega
      · rw [capRead_capWrite_other _ hj']
        exact hall j (by omega)
    · change (capRead (capWrite _ _ _) 0).toNat < _
      by_cases h0 : r.cap.idx.toNat = 0
      · rw [h0] at hnew
        rw [h0, hnew, hdur, if_pos h0]
        exact hunch
      · rw [capRead_capWrite_other _ (Ne.symm h0)]
        exact hfirst (Nat.pos_of_ne_zero h0)
  | overrun hs | stall hs | unchanged hs => exact fun _ => hr (.inl hs)
  | tick hs => exact fun hc => by rcases hc with e | e <;> simp [show r.bg.state = _ from e] at hs
  | _ => simp [DurationsBounded, engineStart, requestStart, interlockTrip]

end BgMove

/-! ## The step -/

/-- The domains of R316, one by one. -/
theorem domainOk_iff (p : Params) (r : Regs) :
    domainOk p r = true ↔
      r.cs.speed.toNat ∈ p.speedSet ∧ r.bg.spd.toNat ∈ p.speedSet ∧ r.cap.idx.toNat ≤ p.expected ∧
        r.cap.d.length = p.expected := by
  simp only [domainOk, speedInDomain, Bool.and_eq_true, List.contains_iff_mem, decide_eq_true_eq, and_assoc]

section
variable {p : Params} {i : Input} {n : Nat} {c : Option Action} {r rF rB : Regs}

/-- R316: a cycle keeps the domains. -/
theorem domainOk_merge (hF : FgMove p i r c rF) (hB : BgMove p i n r rB) (hp : paramsWf p = true)
    (hr : domainOk p r = true) : domainOk p (mergeRegs rF rB) = true := by
  rw [domainOk_iff] at hr ⊢
  obtain ⟨hcs, hspd, hidx, hlen⟩ := hr
  exact ⟨hF.speed_mem hp hcs, hB.speed_mem hcs hspd, hB.idx_le hp hidx, hB.cap_length.trans hlen⟩

/-- R289: the merged duty is that of one of the agents. -/
theorem dutyLegal_merge (hF : FgMove p i r c rF) (hB : BgMove p i n r rB) (hp : paramsWf p = true)
    (hs : r.bg.spd.toNat ∈ p.speedSet) (hr : DutyLegal p r) : DutyLegal p (mergeRegs rF rB) := by
  rw [DutyLegal, mergeRegs_mot]
  split
  · exact hB.dutyLegal hp hs hr
  · exact hF.dutyLegal hr

/-- R254: while the interlock is tripped the merged duty is BG's 0, or the duty as it was. -/
theorem interlockHeld_merge (hF : FgMove p i r c rF) (hB : BgMove p i n r rB) (hr : InterlockHeld r) :
    InterlockHeld (mergeRegs rF rB) := by
  refine ⟨fun ht => ?_, hB.tripped_of_state hr⟩
  rw [mergeRegs_mot]
  split
  · exact hB.duty_of_tripped hr ht
  · rename_i hwr
    have hbefore := (hB.tripped_before_or_wr ht).resolve_right hwr
    rw [hF.mot_of_tripped hbefore]
    exact hr.1 hbefore

/-- R177, R186: the merge counts `NOW` up by one. -/
theorem captureSound_merge (hF : FgMove p i r c rF) (hB : BgMove p i n r rB) (hp : paramsWf p = true)
    (hr : CaptureSound p r) : CaptureSound p (mergeRegs rF rB) := by
  have h := hB.captureSound hp hr
  rw [← hF.now_eq] at h
  exact h

end

/-- The reset values of a well-formed parameter set have the invariant. -/
theorem blockInv_of_reset {s : State} (hp : paramsWf s.params = true) (hr : s.regs = resetRegs s.params) :
    BlockInv s := by
  have h0 := zero_mem_speedSet_of_wf hp
  exact
    { params := hp
      domain := by
        rw [hr, domainOk_iff]
        exact ⟨h0, h0, Nat.zero_le _, List.length_replicate⟩
      duty := by
        rw [hr]
        exact List.mem_map.mpr ⟨0, h0, dutyCode_zero s.params⟩
      key := hr ▸ .inl rfl
      rows := hr ▸ rowsMatch_resetRegs s.params
      wait := by simp [hr, WaitBounded, resetRegs]
      pin := by simp [hr, PinMatch, resetRegs]
      interlock := by simp [hr, InterlockHeld, resetRegs]
      dwell := by simp [hr, DwellMode, resetRegs]
      timer := by simp [hr, TimerBounded, resetRegs]
      capture := by simp [hr, CaptureSound, resetRegs]
      durations := by simp [hr, DurationsBounded, resetRegs]
      reading := by simp [hr, ReadingSound, resetRegs] }

/-- A cycle keeps the invariant: each conjunct by the moves of the agent that owns its registers. -/
theorem blockInv_of_moves {s t : State} {i : Input} {n : Nat} {c : Option Action} {rF rB : Regs}
    (hs : BlockInv s) (hF : FgMove s.params i s.regs.clearStrobes c rF)
    (hB : BgMove s.params i n s.regs.clearStrobes rB) (hp : t.params = s.params)
    (ht : t.regs = mergeRegs rF rB) : BlockInv t := by
  obtain ⟨_, hspd, _, hlen⟩ := (domainOk_iff _ _).mp hs.domain
  obtain ⟨_, _, _, _⟩ := t
  subst hp ht
  exact
    { params := hs.params
      domain := domainOk_merge hF hB hs.params hs.domain
      duty := dutyLegal_merge hF hB hs.params hspd hs.duty
      key := hF.keyLegal hs.key
      rows := hF.rowsMatch hs.rows
      wait := hF.waitBounded hs.params hs.wait
      pin := hB.pinMatch hs.pin
      interlock := interlockHeld_merge hF hB hs.interlock
      dwell := hB.dwellMode hs.dwell
      timer := hB.timerBounded hs.params hs.dwell hs.timer
      capture := captureSound_merge hF hB hs.params hs.capture
      durations := hB.durationsBounded hs.params hlen hs.capture hs.durations
      reading := hB.readingSound hs.reading }

/-- Settles O56: a reset gives the invariant from any registers; without one the domains and the legal keycode
make the cycle complete, and its moves keep the invariant. -/
theorem everyStepKeepsTheInvariant : Obligations.EveryStepKeepsTheInvariant := by
  intro s hs
  cases hr : s.input.rst with
  | true => exact ⟨_, step_of_reset hs.params hr, blockInv_of_reset hs.params rfl⟩
  | false =>
    obtain ⟨t, ht⟩ := step_completes ⟨hs.params, hr, hs.domain⟩ fun _ => hs.key
    obtain ⟨rF, rB, hF, hB, hregs⟩ := step_moves ht hr
    exact ⟨t, ht, blockInv_of_moves hs hF hB (step_env ht).1 hregs⟩

end Sys2Proof.Machine
end

section
/-! Noninterference of the two agents (spec/10_state.md R35, spec/41_sensor_decoder.md R191,
spec/42_dispatcher.md R226): each operation takes registers that agree on what its agent may read to registers that
agree on it again. -/

namespace Sys2Proof.Machine

/-! ## Agent BG -/

/-- Agreement on what BG reads and writes: everything but FG's own registers, the rows, the motor and `EN`. -/
structure BgAgree (r₁ r₂ : Regs) : Prop where
  now : r₁.now = r₂.now
  cs : r₁.cs = r₂.cs
  bg : r₁.bg = r₂.bg
  tripped : r₁.tripped = r₂.tripped
  sn : r₁.sn = r₂.sn
  cap : r₁.cap = r₂.cap
  dataOe : r₁.out.dataOe = r₂.out.dataOe
  dataOut : r₁.out.dataOut = r₂.out.dataOut
  disp : r₁.disp = r₂.disp

namespace BgAgree
variable {r₁ r₂ : Regs} (h : BgAgree r₁ r₂)
include h

/-! ### Writes -/

theorem setBg (x : BgRegs) : BgAgree { r₁ with bg := x } { r₂ with bg := x } := { h with bg := rfl }

theorem setCap (x : CapRegs) : BgAgree { r₁ with cap := x } { r₂ with cap := x } := { h with cap := rfl }

theorem setSn (x : SnRegs) : BgAgree { r₁ with sn := x } { r₂ with sn := x } := { h with sn := rfl }

theorem bgGoto (x : BgState) : BgAgree (r₁.bgGoto x) (r₂.bgGoto x) := by
  unfold Regs.bgGoto
  rw [h.bg]
  exact h.setBg _

theorem setTimer (v : BitVec 24) : BgAgree (r₁.setTimer v) (r₂.setTimer v) := by
  unfold Regs.setTimer
  rw [h.bg]
  exact h.setBg _

theorem tickTimer : BgAgree r₁.tickTimer r₂.tickTimer := by
  unfold Regs.tickTimer
  rw [h.bg]
  exact h.setTimer _

theorem report (e : Status) : BgAgree (r₁.report e) (r₂.report e) := by
  unfold Regs.report
  rw [h.sn]
  exact h.setSn _

theorem setTripped (b : Bool) : BgAgree (r₁.setTripped b) (r₂.setTripped b) := { h with tripped := rfl }

theorem driveData (oe v : Bool) : BgAgree (r₁.driveData oe v) (r₂.driveData oe v) :=
  { h with dataOe := rfl, dataOut := rfl }

theorem writeDuty (v : Duty) : BgAgree (r₁.writeDuty v) (r₂.writeDuty v) := { h with }

theorem refresh (w : Bool) : BgAgree (r₁.refresh w) (r₂.refresh w) :=
  { h with disp := by rw [Regs.refresh_disp, Regs.refresh_disp, h.cs, h.sn] }

theorem clearStrobes : BgAgree r₁.clearStrobes r₂.clearStrobes :=
  { h with disp := by rw [Regs.clearStrobes_disp, Regs.clearStrobes_disp, h.disp] }

theorem dutyOn (p : Params) : BgAgree (dutyOn p r₁) (dutyOn p r₂) := by
  unfold Machine.dutyOn
  rw [h.bg]
  exact (h.writeDuty _).refresh _

/-! ### Conditions -/

theorem timerDone : timerDone r₁ = timerDone r₂ := by
  rw [Machine.timerDone, Machine.timerDone, h.bg]

theorem modeChanged : modeChanged r₁ = modeChanged r₂ := by
  rw [Machine.modeChanged, Machine.modeChanged, h.cs, h.bg]

theorem trips : trips r₁ = trips r₂ := by
  rw [Machine.trips, Machine.trips, h.sn, h.cs]

theorem rateLimited (p : Params) : rateLimited p r₁ = rateLimited p r₂ := by
  rw [Machine.rateLimited, Machine.rateLimited, h.sn, h.now]

theorem countWrong (p : Params) : countWrong p r₁ = countWrong p r₂ := by
  rw [Machine.countWrong, Machine.countWrong, h.cap]

/-! ### The operations of the sensor decoder -/

theorem senseRate (p : Params) : BgAgree (senseRate p r₁) (senseRate p r₂) := by
  unfold Machine.senseRate requestStart
  rw [h.rateLimited p]
  split
  · exact h.bgGoto _
  · exact ((h.driveData _ _).setTimer _).bgGoto _

theorem senseHigh (p : Params) : BgAgree (senseHigh p r₁) (senseHigh p r₂) := by
  unfold Machine.senseHigh
  rw [h.timerDone, h.dataOe]
  split
  · exact ((h.driveData _ _).setTimer _).bgGoto _
  · exact h.tickTimer

theorem captureStart : BgAgree (captureStart r₁) (captureStart r₂) :=
  { h with
    bg := by simp [Machine.captureStart, h.bg]
    cap := by simp [Machine.captureStart, h.cap, h.now]
    dataOe := rfl }

theorem senseLow : BgAgree (senseLow r₁) (senseLow r₂) := by
  unfold Machine.senseLow
  rw [h.timerDone]
  split
  · exact h.captureStart
  · exact h.tickTimer

theorem captureRecord {i₁ i₂ : Input} (hi : i₁.data = i₂.data) :
    BgAgree (captureRecord i₁ r₁) (captureRecord i₂ r₂) :=
  { h with cap := by simp [Machine.captureRecord, h.cap, h.now, hi] }

theorem captureOverrun : BgAgree (captureOverrun r₁) (captureOverrun r₂) := by
  unfold Machine.captureOverrun
  rw [h.cap]
  exact (h.setCap _).bgGoto _

theorem captureUnchanged (p : Params) : BgAgree (captureUnchanged p r₁) (captureUnchanged p r₂) := by
  unfold Machine.captureUnchanged stalled
  rw [h.cap]
  split
  · exact h.bgGoto _
  · exact h.setCap _

theorem senseCapture (p : Params) {i₁ i₂ : Input} (hi : i₁.data = i₂.data) :
    BgAgree (senseCapture p i₁ r₁) (senseCapture p i₂ r₂) := by
  unfold Machine.senseCapture isTransition captureRoom
  rw [h.cap, hi]
  split
  · split
    · exact h.captureRecord hi
    · exact h.captureOverrun
  · exact h.captureUnchanged p

theorem storeReading (f : Frame) : BgAgree (storeReading f r₁) (storeReading f r₂) :=
  { h with sn := by simp [Machine.storeReading, h.sn, h.now] }

theorem senseDecode (p : Params) : BgAgree (senseDecode p r₁) (senseDecode p r₂) := by
  unfold Machine.senseDecode
  rw [h.countWrong p, h.cap]
  split
  · exact (h.report _).bgGoto _
  · dsimp only
    split
    · exact ((h.storeReading _).report _).bgGoto _
    · exact (h.report _).bgGoto _

/-! ### The operations of the wind engine -/

theorem engineStart : BgAgree (engineStart r₁) (engineStart r₂) :=
  { h with bg := by simp [Machine.engineStart, h.bg, h.cs] }

theorem engineInterlock (p : Params) : BgAgree (engineInterlock p r₁) (engineInterlock p r₂) := by
  unfold Machine.engineInterlock interlockTrip
  rw [h.trips]
  split
  · exact ((((h.writeDuty _).refresh _).setTripped _).setTimer _).bgGoto _
  · exact (h.setTripped _).bgGoto _

theorem engineCool : BgAgree (engineCool r₁) (engineCool r₂) := by
  unfold Machine.engineCool
  rw [h.timerDone]
  split
  · exact h.bgGoto _
  · exact h.tickTimer

theorem enginePattern (p : Params) (n : Nat) : BgAgree (enginePattern p n r₁) (enginePattern p n r₂) := by
  unfold Machine.enginePattern
  rw [h.modeChanged, h.bg]
  split
  · exact h.bgGoto _
  · split
    · exact (h.refresh _).bgGoto _
    · exact (h.dutyOn p).bgGoto _
    · exact ((h.dutyOn p).setTimer _).bgGoto _
    · exact ((h.dutyOn p).setTimer _).bgGoto _

theorem engineDwellOn : BgAgree (engineDwellOn r₁) (engineDwellOn r₂) := by
  unfold Machine.engineDwellOn
  rw [h.modeChanged, h.timerDone]
  split
  · exact h.bgGoto _
  · split
    · exact h.bgGoto _
    · exact h.tickTimer

theorem engineOff (p : Params) (n : Nat) : BgAgree (engineOff p n r₁) (engineOff p n r₂) := by
  unfold Machine.engineOff
  rw [h.modeChanged, h.bg]
  split
  · exact h.bgGoto _
  · exact (((h.writeDuty _).refresh _).setTimer _).bgGoto _

theorem engineDwellOff : BgAgree (engineDwellOff r₁) (engineDwellOff r₂) := by
  unfold Machine.engineDwellOff
  rw [h.modeChanged, h.timerDone]
  split
  · exact h.bgGoto _
  · split
    · exact h.bgGoto _
    · exact h.tickTimer

end BgAgree

/-- BG's step reads the parameters, the data level and the registers it may read, and no more. -/
theorem bgStep_agree {s₁ s₂ : State} (hp : s₁.params = s₂.params) (hn : s₁.envCycle = s₂.envCycle)
    (hi : s₁.input.data = s₂.input.data) (h : BgAgree s₁.regs s₂.regs) :
    BgAgree (bgStep s₁) (bgStep s₂) := by
  unfold bgStep
  rw [hp, hn, h.bg]
  split
  · exact h.engineStart
  · exact h.senseRate _
  · exact h.senseHigh _
  · exact h.senseLow
  · exact h.senseCapture _ hi
  · exact h.senseDecode _
  · exact h.engineInterlock _
  · exact h.engineCool
  · exact h.enginePattern _ _
  · exact h.engineDwellOn
  · exact h.engineOff _ _
  · exact h.engineDwellOff

/-- Settles O58: BG's registers after a cycle are its step's, and the timebase counts in both. -/
theorem backgroundIgnoresTheKeypad : Obligations.BackgroundIgnoresTheKeypad := by
  intro s₁ s₂ t₁ t₂ hr₁ hr₂ h₁ h₂ hp hn hi hnow hcs hbg htr hsn hcap hoe hout hdisp
  obtain ⟨_, _, _, ht₁, hnow₁⟩ := step_regs h₁ hr₁
  obtain ⟨_, _, _, ht₂, hnow₂⟩ := step_regs h₂ hr₂
  have hstart : BgAgree s₁.regs s₂.regs := ⟨hnow, hcs, hbg, htr, hsn, hcap, hoe, hout, hdisp⟩
  have h := bgStep_agree (s₁ := s₁.startCycle) (s₂ := s₂.startCycle) hp hn hi hstart.clearStrobes
  have ht : t₁.regs.now = t₂.regs.now := by rw [hnow₁, hnow₂, hnow]
  rw [ht₁, ht₂] at ht ⊢
  exact ⟨h.bg, h.tripped, h.sn, h.cap, h.dataOe, h.dataOut, h.disp, ht⟩

/-! ## Agent FG -/

/-- Agreement on what FG reads to write its own registers: the timebase, the control state, FG's and the
scanner's registers and the rows. -/
structure FgAgree (r₁ r₂ : Regs) : Prop where
  now : r₁.now = r₂.now
  cs : r₁.cs = r₂.cs
  fg : r₁.fg = r₂.fg
  kp : r₁.kp = r₂.kp
  row : r₁.out.row = r₂.out.row

namespace FgAgree
variable {r₁ r₂ : Regs} (h : FgAgree r₁ r₂)
include h

/-! ### Writes -/

theorem setFg (x : FgRegs) : FgAgree { r₁ with fg := x } { r₂ with fg := x } := { h with fg := rfl }

theorem setKp (x : KpRegs) : FgAgree { r₁ with kp := x } { r₂ with kp := x } := { h with kp := rfl }

theorem fgGoto (x : FgState) : FgAgree (r₁.fgGoto x) (r₂.fgGoto x) := by
  unfold Regs.fgGoto
  rw [h.fg]
  exact h.setFg _

theorem setResult (k : KeyWord) : FgAgree (r₁.setResult k) (r₂.setResult k) := by
  unfold Regs.setResult
  rw [h.kp]
  exact h.setKp _

theorem driveRows (v : BitVec 4) : FgAgree (r₁.driveRows v) (r₂.driveRows v) := { h with row := rfl }

theorem startRow (p : Params) (x : BitVec 2) : FgAgree (startRow p x r₁) (startRow p x r₂) :=
  { h with
    fg := by simp [Machine.startRow, h.fg]
    row := rfl }

/-! ### Operations -/

theorem suppressed (p : Params) : suppressed p r₁ = suppressed p r₂ := by
  rw [Machine.suppressed, Machine.suppressed, h.kp, h.now]

theorem scanCheck (p : Params) : FgAgree (scanCheck p r₁) (scanCheck p r₂) := by
  unfold Machine.scanCheck scanSuppressed
  rw [h.suppressed p]
  split
  · exact (h.setResult _).fgGoto _
  · exact h.startRow p 0

theorem scanWait : FgAgree (scanWait r₁) (scanWait r₂) := by
  unfold Machine.scanWait settled
  rw [h.fg]
  split
  · exact h.fgGoto _
  · exact h.setFg _

theorem scanMatch (p : Params) (c : BitVec 2) : FgAgree (scanMatch p c r₁) (scanMatch p c r₂) := by
  unfold Machine.scanMatch
  rw [h.fg]
  exact { (h.driveRows (idleRows p)).fgGoto .dispatch with kp := by rw [h.now] }

theorem scanNoKey (p : Params) : FgAgree (scanNoKey p r₁) (scanNoKey p r₂) :=
  ((h.driveRows _).setResult _).fgGoto _

theorem scanSample (p : Params) {i₁ i₂ : Input} (hi : i₁.col = i₂.col) :
    FgAgree (scanSample p i₁ r₁) (scanSample p i₂ r₂) := by
  unfold Machine.scanSample lastRow
  rw [hi, h.fg]
  split
  · exact h.scanMatch p _
  · split
    · exact h.scanNoKey p
    · exact h.startRow p _

theorem doAction (p : Params) (a : Action) : FgAgree (doAction p a r₁) (doAction p a r₂) where
  now := by simp [h.now]
  cs := by simp [h.cs]
  fg := by simp [h.fg]
  kp := by simp [h.kp]
  row := by simp [h.row]

end FgAgree

/-- The dispatched action is the table's for the keycode in `KP.res`. -/
theorem dispatchedAction_agree {s₁ s₂ : State} (hp : s₁.params = s₂.params) (h : FgAgree s₁.regs s₂.regs) :
    dispatchedAction s₁ = dispatchedAction s₂ := by
  rw [dispatchedAction, dispatchedAction, hp, h.fg, h.kp]

/-- FG's step reads the parameters, the columns and the registers it may read, and no more. -/
theorem fgStep_agree {s₁ s₂ t₁ t₂ : State} (hp : s₁.params = s₂.params) (hi : s₁.input.col = s₂.input.col)
    (h : FgAgree s₁.regs s₂.regs) (h₁ : fgStep s₁ = .next t₁) (h₂ : fgStep s₂ = .next t₂) :
    FgAgree t₁.regs t₂.regs := by
  have hs₁ : s₁.regs.fg.state = s₂.regs.fg.state := by rw [h.fg]
  cases hs : s₂.regs.fg.state with
  | check =>
    rw [fgStep_check (hs₁.trans hs)] at h₁
    rw [fgStep_check hs] at h₂
    cases h₁
    cases h₂
    exact hp ▸ h.scanCheck _
  | wait =>
    rw [fgStep_wait (hs₁.trans hs)] at h₁
    rw [fgStep_wait hs] at h₂
    cases h₁
    cases h₂
    exact h.scanWait
  | sample =>
    rw [fgStep_sample (hs₁.trans hs)] at h₁
    rw [fgStep_sample hs] at h₂
    cases h₁
    cases h₂
    exact hp ▸ h.scanSample _ hi
  | dispatch =>
    obtain ⟨a₁, ha₁, _, rfl⟩ := fgStep_dispatched (hs₁.trans hs) h₁
    obtain ⟨a₂, ha₂, _, rfl⟩ := fgStep_dispatched hs h₂
    rw [dispatchedAction_agree hp h, ha₂] at ha₁
    cases ha₁
    exact hp ▸ h.doAction _ _

/-- Settles O59: FG's registers after a cycle are its step's. -/
theorem foregroundIgnoresTheEngine : Obligations.ForegroundIgnoresTheEngine := by
  intro s₁ s₂ t₁ t₂ hr₁ hr₂ h₁ h₂ hp hi hnow hcs hfg hkp hrow
  obtain ⟨_, hF₁, _, ht₁, _⟩ := step_regs h₁ hr₁
  obtain ⟨_, hF₂, _, ht₂, _⟩ := step_regs h₂ hr₂
  have hstart : FgAgree s₁.startCycle.regs s₂.startCycle.regs := ⟨hnow, hcs, hfg, hkp, hrow⟩
  have h := fgStep_agree (s₁ := s₁.startCycle) (s₂ := s₂.startCycle) hp hi hstart hF₁ hF₂
  rw [ht₁, ht₂]
  exact ⟨h.cs, h.fg, h.kp, h.row⟩

end Sys2Proof.Machine
end

section
/-! How a change of the mode reaches BG (spec/20_memory.md R88, R89): the dispatch of cycle `n` writes the mode, the
mode check of cycle `n + 1` sees it, and BG is in `B_START` in cycle `n + 2`. -/

namespace Sys2Proof.Machine

/-- The states in which BG compares the mode with the latched one (spec/43_wind_engine.md R246, R248 to R250). -/
def modeCheckStates : List BgState := [.pattern, .dwellOn, .off, .dwellOff]

/-- R246, R248 to R250: in each of its mode checks BG leaves for `B_START` on a changed mode and writes nothing
else, whatever the timer. -/
theorem bgStep_of_modeChanged {s : State} (hs : s.regs.bg.state ∈ modeCheckStates)
    (hm : s.regs.cs.mode ≠ s.regs.bg.md) : bgStep s = s.regs.bgGoto .start := by
  have hc := modeChanged_iff.mpr hm
  simp only [modeCheckStates, List.mem_cons, List.not_mem_nil, or_false] at hs
  obtain hs | hs | hs | hs := hs
  · rw [bgStep_pattern hs, enginePattern, if_pos hc]
  · rw [bgStep_dwellOn hs, engineDwellOn, if_pos hc]
  · rw [bgStep_off hs, engineOff, if_pos hc]
  · rw [bgStep_dwellOff hs, engineDwellOff, if_pos hc]

/-- A cycle that begins in a mode check with the mode changed ends in `B_START`. -/
theorem step_state_of_modeChanged {s t : State} (h : step s = .next t) (hr : s.input.rst = false)
    (hs : s.regs.bg.state ∈ modeCheckStates) (hm : s.regs.cs.mode ≠ s.regs.bg.md) :
    t.regs.bg.state = .start := by
  obtain ⟨_, _, _, ht, _⟩ := step_regs h hr
  rw [ht, mergeRegs_bg, bgStep_of_modeChanged (s := s.startCycle) hs hm]
  rfl

/-- R248, R250: while the mode is the latched one, an ON dwell goes on or gives way to `B_OFF`, and an OFF dwell
whose timer is running goes on: BG is in a mode check again. -/
theorem BgMove.modeCheck_of_dwell {p : Params} {i : Input} {n : Nat} {r r' : Regs} (h : BgMove p i n r r')
    (hm : r.cs.mode = r.bg.md)
    (hs : r.bg.state = .dwellOn ∨ (r.bg.state = .dwellOff ∧ r.bg.tmr ≠ 0)) :
    r'.bg.state ∈ modeCheckStates := by
  cases h with
  | tick => obtain hs | ⟨hs, _⟩ := hs <;> simp [modeCheckStates, hs]
  | onOver => simp [modeCheckStates]
  | offOver hoff _ ht => exact absurd ht (by simpa [hoff] using hs)
  | abort _ hne => exact absurd hm hne
  | _ => simp_all

/-- R220: a cycle that dispatches an action leaves FG in `F_CHECK`. -/
theorem step_fg_of_dispatched {s t : State} {a : Action} (h : step s = .next t) (hr : s.input.rst = false)
    (hd : dispatchedAction s = some a) : t.regs.fg.state = .check := by
  obtain ⟨_, _, hF, _, ht⟩ := step_moves h hr
  rw [ht, mergeRegs_fg]
  rw [hd] at hF
  cases hF
  rw [doAction_fg]

/-- R32 to R34: a cycle in which FG scans leaves the control state. -/
theorem step_cs_of_scanning {s t : State} (h : step s = .next t) (hr : s.input.rst = false)
    (hs : s.regs.fg.state ≠ .dispatch) : t.regs.cs = s.regs.cs := by
  rw [controlStateChangesOnlyByDispatch s t hr h, dispatchedAction_of_scanning hs]

/-- R223: the mode after a cycle that dispatches `SET_MODE`. -/
theorem step_mode_of_setMode {s t : State} {m : Mode} (h : step s = .next t) (hr : s.input.rst = false)
    (hd : dispatchedAction s = some (.setMode m)) : t.regs.cs.mode = m := by
  rw [controlStateChangesOnlyByDispatch s t hr h, hd]

/-- Settles O49: the first cycle writes the mode and keeps BG in a mode check with its latched mode; the second sees
the change, and FG, back in `F_CHECK`, leaves the mode. -/
theorem modeChangeLeavesADwell : Obligations.ModeChangeLeavesADwell := by
  intro s m hinv hq hd hne hm hdwell
  obtain ⟨u, hu, huinv⟩ := everyStepKeepsTheInvariant s hinv
  obtain ⟨t, ht, _⟩ := everyStepKeepsTheInvariant u huinv
  have hr : s.input.rst = false := hq.input
  have hru : u.input.rst = false := (hq.tail (step_env hu).2.1).input
  obtain ⟨_, rB, _, hB, hregs⟩ := step_moves hu hr
  have hcheck : u.regs.bg.state ∈ modeCheckStates := by
    rw [hregs]
    exact hB.modeCheck_of_dwell hm hdwell
  have hmd : u.regs.bg.md = s.regs.bg.md := by
    rw [hregs]
    refine (hB.latched_frame ?_).1
    obtain hs | ⟨hs, _⟩ := hdwell <;> simp [hs]
  have hmode : u.regs.cs.mode = m := step_mode_of_setMode hu hr hd
  have hfg : u.regs.fg.state ≠ .dispatch := by simp [step_fg_of_dispatched hu hr hd]
  refine ⟨t, by rw [run_succ hu, run_succ ht, run_zero], ?_, ?_⟩
  · exact step_state_of_modeChanged ht hru hcheck (by rwa [hmode, hmd])
  · rw [step_cs_of_scanning ht hru hfg, hmode]

end Sys2Proof.Machine
end

section
/-! Encoding and decoding (spec/30_encoding.md R102 to R111): the fields of a word, then for each format that the
decoder answers exactly the instruction whose word it is given, then the legal words and the symbol table. -/

namespace Sys2Proof.Machine

/-! ## The fields of an action word (R106, R107) -/

@[simp] theorem actionOp_actionWord (op : BitVec 2) (arg : Byte) : actionOp (actionWord op arg) = op :=
  BitVec.extractLsb'_append_eq_left

@[simp] theorem actionArg_actionWord (op : BitVec 2) (arg : Byte) : actionArg (actionWord op arg) = arg :=
  BitVec.extractLsb'_append_eq_right

/-- R106: no bit of an action word is outside its two fields. -/
theorem actionWord_op_arg (w : ActionWord) : actionWord (actionOp w) (actionArg w) = w :=
  (BitVec.extractLsb'_append_extractLsb'_eq_extractLsb' (start₁ := 0) (len₁ := 8) rfl).trans
    BitVec.extractLsb'_eq_self

/-- R106: an action word as a number. -/
theorem actionWord_toNat (op : BitVec 2) (arg : Byte) :
    (actionWord op arg).toNat = 256 * op.toNat + arg.toNat := by
  rw [actionWord, BitVec.toNat_append, ← Nat.shiftLeft_add_eq_or_of_lt arg.isLt, Nat.shiftLeft_eq]
  omega

/-- R111: the fourth code of `op`. -/
theorem op_eq_three : ∀ op : BitVec 2, op ≠ 0 → op ≠ 1 → op ≠ 2 → op = 3 := by decide

@[simp] theorem modeOfCode_code (m : Mode) : modeOfCode m.code = m := by cases m <;> rfl

@[simp] theorem code_modeOfCode : ∀ c : BitVec 2, (modeOfCode c).code = c := by decide

/-- R107: `arg` of a `SET_MODE` word holds the code in its low two bits. -/
@[simp] theorem modeArg_low (c : BitVec 2) : (c.setWidth 8 : Byte).extractLsb' 0 2 = c := by
  revert c
  decide

/-- R107: the other six bits of a `SET_MODE` word's `arg` are 0. -/
@[simp] theorem modeArg_high (c : BitVec 2) : (c.setWidth 8 : Byte).extractLsb' 2 6 = 0 := by
  revert c
  decide

/-- R107: an `arg` whose high six bits are 0 is its low two bits. -/
theorem modeArg_of_high : ∀ arg : Byte, arg.extractLsb' 2 6 = 0 → (arg.extractLsb' 0 2).setWidth 8 = arg := by
  decide

/-! ## Action words (R106 to R108, R111) -/

theorem decodeAction_encodeAction {speeds : List Nat} {a : Action} (h : a.wf speeds = true) :
    decodeAction speeds (encodeAction a) = .ok a := by
  cases a with
  | nop => simp [decodeAction, encodeAction]
  | setSpeed p =>
    have hp : legalSpeed speeds p = true := h
    simp [decodeAction, encodeAction, hp]
  | setMode m => simp [decodeAction, encodeAction]
  | setThr t => simp [decodeAction, encodeAction]

/-- No operand bit is dropped: the decoded action's word is the word itself, field by field. -/
theorem encodeAction_of_decodeAction {speeds : List Nat} {w : ActionWord} {a : Action}
    (h : decodeAction speeds w = .ok a) : encodeAction a = w := by
  rw [← actionWord_op_arg w]
  unfold decodeAction at h
  split at h
  next h0 =>
    split at h <;> cases h
    next harg => rw [h0, harg, encodeAction]
  next h0 =>
    split at h
    next h1 =>
      split at h <;> cases h
      rw [h1, encodeAction]
    next h1 =>
      split at h
      next h2 =>
        split at h <;> cases h
        next hhigh => rw [h2, encodeAction, code_modeOfCode, modeArg_of_high _ hhigh]
      next h2 =>
        cases h
        rw [op_eq_three _ h0 h1 h2, encodeAction]

/-- The decoder of action words inverts the encoder on the well-formed actions and answers no other word. -/
theorem decodeAction_eq_ok_iff {speeds : List Nat} {w : ActionWord} {a : Action} :
    decodeAction speeds w = .ok a ↔ a.wf speeds = true ∧ encodeAction a = w := by
  constructor
  · exact fun h => ⟨decodeAction_wf h, encodeAction_of_decodeAction h⟩
  · rintro ⟨hw, rfl⟩
    exact decodeAction_encodeAction hw

/-! ## Keycodes (R102, R103) -/

/-- The keycode of a cell: bit 4 set above the cell's index `4·row + col`. -/
def cellKeycode (cell : Fin 16) : KeyWord := (1 : BitVec 1) ++ (BitVec.ofFin cell : BitVec 4)

theorem encode_keyInstr (cell : Fin 16) : encode (keyInstr cell) = .key (cellKeycode cell) := by
  fin_cases cell <;> rfl

/-- Every instruction is an action, "no key" or the key of a cell. -/
theorem instr_action_or_key (i : Instr) :
    (∃ a : Action, i = a.toInstr) ∨ i = .keyNone ∨ ∃ cell, i = keyInstr cell := by
  cases i with
  | nop => exact .inl ⟨.nop, rfl⟩
  | setSpeed p => exact .inl ⟨.setSpeed p, rfl⟩
  | setMode m => exact .inl ⟨.setMode m, rfl⟩
  | setThr t => exact .inl ⟨.setThr t, rfl⟩
  | keyNone => exact .inr (.inl rfl)
  | _ => exact .inr (.inr (by decide))

theorem decodeKeycode_cellKeycode (cell : Fin 16) : decodeKeycode (cellKeycode cell) = .ok (keyInstr cell) := by
  revert cell
  decide

/-- R102, R116: a keycode with bit 4 set is the one of its cell. -/
theorem cellKeycode_cellIndex :
    ∀ k : KeyWord, k.getLsbD 4 = true → cellKeycode (cellIndex k).toFin = k := by
  decide

/-- R103: a keycode below 0x10 that is not "no key" is rejected by name. -/
theorem decodeKeycode_of_reserved {k : KeyWord} (h0 : k ≠ 0) (h4 : k.getLsbD 4 = false) :
    decodeKeycode k = .error (.reservedKeycode k) := by
  rw [decodeKeycode, if_neg (show k ≠ keycodeNone from h0), h4]
  rfl

/-- The cases of a keycode that the decoder accepts. -/
theorem decodeKeycode_cases {k : KeyWord} {i : Instr} (h : decodeKeycode k = .ok i) :
    (k = keycodeNone ∧ i = .keyNone) ∨ ∃ cell, k = cellKeycode cell ∧ i = keyInstr cell := by
  unfold decodeKeycode at h
  split at h
  next h0 =>
    cases h
    exact .inl ⟨h0, rfl⟩
  next =>
    split at h <;> cases h
    next h4 => exact .inr ⟨_, (cellKeycode_cellIndex k h4).symm, rfl⟩

/-! ## Both formats -/

theorem encode_toInstr (a : Action) : encode a.toInstr = .act (encodeAction a) := by cases a <;> rfl

theorem wf_toInstr (speeds : List Nat) (a : Action) : a.toInstr.wf speeds = a.wf speeds := by cases a <;> rfl

/-- R103: the legality of a key's instruction does not depend on the build. -/
theorem wf_keyInstr (speeds : List Nat) (cell : Fin 16) : (keyInstr cell).wf speeds = true := by
  fin_cases cell <;> rfl

/-- An action word decodes to the instruction of its action. -/
theorem decode_act_eq_ok_iff {speeds : List Nat} {w : ActionWord} {i : Instr} :
    decode speeds (.act w) = .ok i ↔ ∃ a, decodeAction speeds w = .ok a ∧ a.toInstr = i := by
  cases h : decodeAction speeds w <;> simp [decode, h]

/-- No well-formed instruction is lost. -/
theorem decode_encode {speeds : List Nat} {i : Instr} (h : i.wf speeds = true) :
    decode speeds (encode i) = .ok i := by
  obtain ⟨a, rfl⟩ | rfl | ⟨cell, rfl⟩ := instr_action_or_key i
  · rw [wf_toInstr] at h
    rw [encode_toInstr]
    exact decode_act_eq_ok_iff.mpr ⟨a, decodeAction_encodeAction h, rfl⟩
  · rfl
  · rw [encode_keyInstr]
    exact decodeKeycode_cellKeycode cell

/-- No reserved word decodes, and no bit of a word that decodes is dropped. -/
theorem wf_and_encode_of_decode {speeds : List Nat} {c : Code} {i : Instr} (h : decode speeds c = .ok i) :
    i.wf speeds = true ∧ encode i = c := by
  cases c with
  | key k =>
    obtain ⟨rfl, rfl⟩ | ⟨cell, rfl, rfl⟩ := decodeKeycode_cases h
    · exact ⟨rfl, rfl⟩
    · exact ⟨wf_keyInstr speeds cell, encode_keyInstr cell⟩
  | act w =>
    obtain ⟨a, ha, rfl⟩ := decode_act_eq_ok_iff.mp h
    obtain ⟨hw, rfl⟩ := decodeAction_eq_ok_iff.mp ha
    exact ⟨by rw [wf_toInstr, hw], encode_toInstr a⟩

/-- Settles O1: the decoder answers only well-formed instructions, each for its own word, and every one of them. -/
theorem decodeEncodeAgree : Obligations.DecodeEncodeAgree := by
  intro speeds c i
  constructor
  · exact wf_and_encode_of_decode
  · rintro ⟨hw, rfl⟩
    exact decode_encode hw

/-! ## The legal action words (R108) -/

/-- The legal words are the words of the well-formed actions. -/
theorem actionLegal_iff {speeds : List Nat} {w : ActionWord} :
    actionLegal speeds w = true ↔ ∃ a : Action, a.wf speeds = true ∧ encodeAction a = w := by
  simp only [← decodeAction_eq_ok_iff, actionLegal]
  cases decodeAction speeds w <;> simp

/-- R108: a `SET_SPEED` word is 0x100 above a percent of the speed set. -/
theorem setSpeed_word_iff {speeds : List Nat} {w : ActionWord} :
    (∃ p, legalSpeed speeds p = true ∧ encodeAction (.setSpeed p) = w) ↔
      ∃ v ∈ speeds, v < 256 ∧ w.toNat = 0x100 + v := by
  constructor
  · rintro ⟨p, hp, rfl⟩
    exact ⟨p.toNat, List.contains_iff_mem.mp hp, p.isLt, actionWord_toNat 1 p⟩
  · rintro ⟨v, hv, hlt, hw⟩
    have hp : (BitVec.ofNat 8 v).toNat = v := by rw [BitVec.toNat_ofNat, Nat.mod_eq_of_lt hlt]
    refine ⟨BitVec.ofNat 8 v, List.contains_iff_mem.mpr (hp.symm ▸ hv), BitVec.eq_of_toNat_eq ?_⟩
    rw [hw, encodeAction, actionWord_toNat, hp]
    rfl

/-- R107, R108: the four `SET_MODE` words. -/
theorem setMode_word_iff {w : ActionWord} :
    (∃ m, encodeAction (.setMode m) = w) ↔ 0x200 ≤ w ∧ w ≤ 0x203 := by
  constructor
  · rintro ⟨m, rfl⟩
    cases m <;> decide
  · rintro ⟨hlo, hhi⟩
    refine ⟨modeOfCode (BitVec.ofNat 2 (w.toNat - 0x200)), BitVec.eq_of_toNat_eq ?_⟩
    rw [encodeAction, actionWord_toNat, code_modeOfCode, BitVec.toNat_setWidth, BitVec.toNat_ofNat]
    bv_omega

/-- R108: every word of the last quarter is a `SET_THR` word. -/
theorem setThr_word_iff {w : ActionWord} : (∃ t, encodeAction (.setThr t) = w) ↔ 0x300 ≤ w := by
  constructor
  · rintro ⟨t, rfl⟩
    rw [encodeAction, BitVec.le_def, actionWord_toNat]
    exact Nat.le_add_right _ _
  · intro hlo
    refine ⟨BitVec.ofNat 8 (w.toNat - 0x300), BitVec.eq_of_toNat_eq ?_⟩
    rw [encodeAction, actionWord_toNat, BitVec.toNat_ofNat]
    bv_omega

/-- R108 for any speed set: the words of the four actions, in the order of `op`. -/
theorem actionLegal_iff_listed (speeds : List Nat) (w : ActionWord) :
    actionLegal speeds w = true ↔
      w = 0x000 ∨ (∃ v ∈ speeds, v < 256 ∧ w.toNat = 0x100 + v) ∨ (0x200 ≤ w ∧ w ≤ 0x203) ∨ 0x300 ≤ w := by
  rw [actionLegal_iff, ← setSpeed_word_iff, ← setMode_word_iff, ← setThr_word_iff]
  constructor
  · rintro ⟨a, hw, rfl⟩
    cases a with
    | nop => exact .inl rfl
    | setSpeed p => exact .inr (.inl ⟨p, hw, rfl⟩)
    | setMode m => exact .inr (.inr (.inl ⟨m, rfl⟩))
    | setThr t => exact .inr (.inr (.inr ⟨t, rfl⟩))
  · rintro (rfl | ⟨p, hp, rfl⟩ | ⟨m, rfl⟩ | ⟨t, rfl⟩)
    · exact ⟨.nop, rfl, rfl⟩
    · exact ⟨.setSpeed p, hp, rfl⟩
    · exact ⟨.setMode m, rfl, rfl⟩
    · exact ⟨.setThr t, rfl, rfl⟩

/-- R108: the five `SET_SPEED` words of the default speed set. -/
theorem default_setSpeed_words (w : ActionWord) :
    (∃ v ∈ Config.speedSet, v < 256 ∧ w.toNat = 0x100 + v) ↔
      w ∈ [(0x100 : ActionWord), 0x11E, 0x13C, 0x150, 0x164] := by
  simp [Config.speedSet, ← BitVec.toNat_inj]

/-- Settles O2: the words of the well-formed actions, for any speed set and for the default one; the table's words
are checked one by one. -/
theorem legalActionWordsAreTheListedOnes : Obligations.LegalActionWordsAreTheListedOnes := by
  refine ⟨fun w => ?_, actionLegal_iff_listed, fun p hp => ?_⟩
  · rw [actionLegal_iff_listed, default_setSpeed_words]
  · obtain ⟨_, _, _, hact, _⟩ := (paramsWf_iff p).mp hp
    exact (actionsWf_iff p).mp hact

/-- Settles O3: each word is the encoding of its instruction, which is well formed. -/
theorem writtenOutWordsDecode : Obligations.WrittenOutWordsDecode :=
  ⟨decode_encode (i := .nop) rfl, decode_encode (i := .setSpeed 30) rfl,
    decode_encode (i := .setMode .natural) rfl, decode_encode (i := .setThr 40) rfl,
    decode_encode (i := .keyNone) rfl, decode_encode (i := .keyR1C2) rfl,
    decode_encode (i := .keyR3C1) rfl⟩

/-! ## The symbol table (R105) -/

/-- R105: no symbol stands twice in the alphabet. -/
theorem alphabet_nodup : Config.alphabet.Nodup := by decide

/-- The check asks of the table only that it names every symbol. -/
theorem symbolsWf_iff (p : Params) : symbolsWf p = true ↔ Config.alphabet ⊆ p.symbol.toList := by
  simp only [symbolsWf, List.all_eq_true, List.contains_iff_mem, List.subset_def]

/-- Settles O4: 16 cells that name 16 different symbols have no room for a second one of any. -/
theorem symbolTableIsOneToOne : Obligations.SymbolTableIsOneToOne := by
  intro p
  rw [symbolsWf_iff]
  constructor
  · intro hsub
    have hlen : p.symbol.toList.length ≤ Config.alphabet.length := by simp [Config.alphabet]
    exact ((List.subperm_of_subset alphabet_nodup hsub).perm_of_length_le hlen).symm
  · exact fun hperm => hperm.symm.subset

end Sys2Proof.Machine
end

section
/-! The refusals of reserved words (spec/30_encoding.md R103, R108; spec/60_exceptions.md R316). -/

namespace Sys2Proof.Machine

/-! ## Reserved action words (R108, log entry 12) -/

theorem runAction_of_not_wf {a : Action} {s : State} (h : a.wf s.params.speedSet = false) :
    runAction a s = .refused (.reservedAction (encodeAction a)) := by
  simp [runAction, h]

theorem runActionWord_of_reserved {w : ActionWord} {s : State}
    (h : actionLegal s.params.speedSet w = false) : runActionWord w s = .refused (.reservedAction w) := by
  cases hd : decodeAction s.params.speedSet w with
  | ok => simp [actionLegal, hd] at h
  | error => simp [runActionWord, hd]

/-- Settles O11: the word of an illegal speed is its action's word; a key's is its cell's table entry. -/
theorem reservedActionWordsAreRefused : Obligations.ReservedActionWordsAreRefused := by
  refine ⟨fun s p hp => ?_, fun s cell hw => ?_⟩
  · have hwf : (Action.setSpeed p).wf s.params.speedSet = false := by simpa [Action.wf, legalSpeed] using hp
    exact runAction_of_not_wf hwf
  · rw [exec_keyInstr]
    exact runActionWord_of_reserved hw

/-! ## Reserved keycodes (R103) -/

/-- R103: the keycodes 0x01 to 0x0F are neither "no key" nor a key's. -/
theorem reserved_keycode_bits :
    ∀ k : KeyWord, 1 ≤ k.toNat → k.toNat ≤ 15 → k ≠ 0 ∧ k.getLsbD 4 = false := by decide

/-- R220: the dispatch of a keycode that the decoder rejects is refused. -/
theorem fgStep_of_rejected {s : State} {e : DecodeError} (hs : s.regs.fg.state = .dispatch)
    (h : decodeKeycode s.regs.kp.res = .error e) : fgStep s = .refused (.reservedKeycode s.regs.kp.res) := by
  rw [fgStep_dispatch hs, fgDispatch, fetchInstr, h]

/-- An ordinary step is refused as FG's step is. -/
theorem step_of_fgStep_refused {s : State} {e : Refusal} (hs : Ready s)
    (h : fgStep s.startCycle = .refused e) : step s = .refused e := by
  rw [step_of_ready hs, cycle, h]

/-- R103: every step keeps `KP.res` outside the reserved keycodes. -/
theorem step_keyLegal {s t : State} (h : step s = .next t) (hk : KeyLegal s.regs) : KeyLegal t.regs := by
  obtain ht | ⟨rF, rB, hF, _, ht⟩ := step_reset_or_moves h <;> rw [ht]
  · exact .inl rfl
  · exact hF.keyLegal hk

/-- Settles O25: FG's moves write "no key" or a key's code, and a reserved keycode is rejected at its dispatch. -/
theorem reservedKeycodesNeverArise : Obligations.ReservedKeycodesNeverArise := by
  refine ⟨fun _ _ => step_keyLegal, fun s hs hd hlo hhi => step_of_fgStep_refused hs ?_⟩
  obtain ⟨h0, h4⟩ := reserved_keycode_bits _ hlo hhi
  exact fgStep_of_rejected (s := s.startCycle) hd (decodeKeycode_of_reserved h0 h4)

end Sys2Proof.Machine
end

section
/-! The keypad scanner cycle by cycle (spec/40_keypad_scanner.md R140 to R147, R149): the values that its
operations test and write, what each of its states does in a cycle, and the debounce window of a detection. -/

namespace Sys2Proof.Machine

/-! ## Row vectors and loads (R13, R142, R143) -/

/-- R13: every row of `IDLE_ROWS` is inactive. -/
theorem idleRows_getLsbD (p : Params) (i : Fin 4) : (idleRows p).getLsbD i = !p.keyActive := by
  unfold idleRows inactiveLevel
  cases p.keyActive <;> revert i <;> decide

/-- R13: row `x` of `ONEHOT(x)` is active, every other row inactive. -/
theorem oneHotRow_getLsbD (p : Params) (x : BitVec 2) (i : Fin 4) :
    (oneHotRow p x).getLsbD i = if i.val = x.toNat then p.keyActive else !p.keyActive := by
  unfold oneHotRow idleRows inactiveLevel
  cases p.keyActive <;> revert x i <;> decide

theorem settleLoad_toNat {p : Params} (hp : paramsWf p = true) : (settleLoad p).toNat = p.rowSettle - 1 := by
  have := rowSettle_le_of_wf hp
  rw [settleLoad, BitVec.toNat_ofNat, Nat.mod_eq_of_lt (by omega)]

/-- R142, R147: a driven row is sampled after its settle wait, or at once if there is none. -/
theorem startRow_settle {p : Params} (hp : paramsWf p = true) (x : BitVec 2) (r : Regs) :
    if 0 < p.rowSettle then
      (startRow p x r).fg.state = .wait ∧ (startRow p x r).fg.wcnt.toNat = p.rowSettle - 1
    else (startRow p x r).fg.state = .sample ∧ (startRow p x r).fg.wcnt = r.fg.wcnt := by
  unfold startRow
  split
  · simp [settleLoad_toNat hp]
  · simp

/-! ## The debounce window (R140) -/

/-- R31: at or after `x` the elapsed time does not wrap. -/
theorem elapsed_of_le {now x : Time} (h : x ≤ now) : elapsed now x = now.toNat - x.toNat :=
  BitVec.toNat_sub_of_le h

theorem suppressed_iff {p : Params} {r : Regs} (h : r.kp.valid = true → r.kp.last ≤ r.now) :
    suppressed p r = true ↔ r.kp.valid = true ∧ r.now.toNat - r.kp.last.toNat < p.debounce := by
  rw [suppressed, Bool.and_eq_true, decide_eq_true_eq]
  exact and_congr_right fun hv => by rw [elapsed_of_le (h hv)]

/-! ## The column sample (R144, R145) -/

theorem columnActive_iff {p : Params} {col : BitVec 4} {c : Nat} :
    columnActive p col c = true ↔ col.getLsbD c = p.keyActive := beq_iff_eq

/-- R144: the lowest active column is sampled. -/
theorem firstActiveColumn_of_lowest {p : Params} {col : BitVec 4} {c : Fin 4}
    (hc : col.getLsbD c = p.keyActive) (hlow : ∀ c' : Fin 4, c' < c → col.getLsbD c' ≠ p.keyActive) :
    firstActiveColumn p col = some (BitVec.ofFin c) := by
  rw [← columnActive_iff] at hc
  simp only [ne_eq, ← columnActive_iff] at hlow
  match c with
  | 0 => exact if_pos hc
  | 1 => exact (if_neg (hlow 0 (by decide))).trans (if_pos hc)
  | 2 => exact (if_neg (hlow 0 (by decide))).trans ((if_neg (hlow 1 (by decide))).trans (if_pos hc))
  | 3 =>
    exact (if_neg (hlow 0 (by decide))).trans
      ((if_neg (hlow 1 (by decide))).trans ((if_neg (hlow 2 (by decide))).trans (if_pos hc)))

/-- R144: with no column active none is sampled. -/
theorem firstActiveColumn_of_none {p : Params} {col : BitVec 4}
    (hnone : ∀ c : Fin 4, col.getLsbD c ≠ p.keyActive) : firstActiveColumn p col = none := by
  simp only [ne_eq, ← columnActive_iff] at hnone
  exact (if_neg (hnone 0)).trans
    ((if_neg (hnone 1)).trans ((if_neg (hnone 2)).trans (if_neg (hnone 3))))

/-- R102: a keycode as a number. -/
theorem keycode_toNat (x y : BitVec 2) : (keycode x y).toNat = 16 + 4 * x.toNat + y.toNat := by
  revert x y
  decide

theorem settled_iff {r : Regs} : settled r = true ↔ r.fg.wcnt = 0 := beq_iff_eq

theorem lastRow_iff {r : Regs} : lastRow r = true ↔ r.fg.row = 3 := beq_iff_eq

/-- R147: before the last row the row counter does not wrap. -/
theorem nextRow_toNat : ∀ x : BitVec 2, x ≠ 3 → (x + 1).toNat = x.toNat + 1 := by decide

/-! ## The cycle of each state -/

/-- An ordinary step in which FG scans completes by a move that dispatches nothing. -/
theorem step_scans {s : State} (hs : Ready s) (hd : s.regs.fg.state ≠ .dispatch) :
    ∃ t rF rB, step s = .next t ∧ FgMove s.params s.input s.regs.clearStrobes none rF ∧
      t.regs = mergeRegs rF rB := by
  obtain ⟨t, ht⟩ := step_completes hs fun h => absurd h hd
  obtain ⟨_, hr, _⟩ := hs
  obtain ⟨rF, rB, hF, _, hregs⟩ := step_moves ht hr
  rw [dispatchedAction_of_scanning hd] at hF
  exact ⟨t, rF, rB, ht, hF, hregs⟩

/-- Settles O26: the debounce test decides between the two moves of `F_CHECK`. -/
theorem debounceCheckSuppressesOrStartsScan : Obligations.DebounceCheckSuppressesOrStartsScan := by
  intro s hs hcheck hnow
  obtain ⟨t, rF, rB, ht, hF, hregs⟩ := step_scans hs (by simp [hcheck])
  have hiff : suppressed s.params s.regs.clearStrobes = true ↔ s.regs.kp.valid = true ∧
      s.regs.now.toNat - s.regs.kp.last.toNat < s.params.debounce := suppressed_iff hnow
  refine ⟨t, ht, ?_⟩
  rw [hregs]
  cases hF with
  | suppress _ hw =>
    refine ⟨rfl, rfl, ?_⟩
    rw [if_pos (hiff.mp hw)]
    exact ⟨rfl, rfl, rfl⟩
  | scanStart _ hw =>
    refine ⟨rfl, rfl, ?_⟩
    rw [if_neg (mt hiff.mpr (ne_true_of_eq_false hw))]
    refine ⟨rfl, rfl, fun i => ?_, startRow_settle hs.1 _ _⟩
    change (oneHotRow s.params 0).getLsbD i = _
    simpa using oneHotRow_getLsbD s.params 0 i
  | settle h | wait h | detect _ h | noKey h | nextRow h => simp [hcheck] at h

/-- Settles O27: the settle count decides between the two moves of `F_WAIT`. -/
theorem rowSettleCountsDown : Obligations.RowSettleCountsDown := by
  intro s hs hwait
  obtain ⟨t, rF, rB, ht, hF, hregs⟩ := step_scans hs (by simp [hwait])
  refine ⟨t, ht, ?_⟩
  rw [hregs]
  cases hF with
  | settle _ hc =>
    have h0 : s.regs.fg.wcnt = 0 := settled_iff.mp hc
    refine ⟨rfl, rfl, rfl, ?_⟩
    rw [if_pos h0]
    exact ⟨rfl, rfl⟩
  | wait _ hc =>
    have h0 : s.regs.fg.wcnt ≠ 0 := mt settled_iff.mpr (ne_true_of_eq_false hc)
    refine ⟨rfl, rfl, rfl, ?_⟩
    rw [if_neg h0]
    refine ⟨hwait, ?_⟩
    change (s.regs.fg.wcnt - 1).toNat = _
    bv_omega
  | suppress h | scanStart h | detect _ h | noKey h | nextRow h => simp [hwait] at h

/-- Settles O28: the lowest active column, if there is one, and the last row decide between the three moves of
`F_SAMPLE`. -/
theorem columnSampleFirstMatchWins : Obligations.ColumnSampleFirstMatchWins := by
  intro s hs hsample
  obtain ⟨t, rF, rB, ht, hF, hregs⟩ := step_scans hs (by simp [hsample])
  refine ⟨t, ht, ?_⟩
  rw [hregs]
  cases hF with
  | detect c _ hc =>
    refine ⟨fun c' hact hlow => ?_, fun hnone => ?_⟩
    · rw [firstActiveColumn_of_lowest hact hlow] at hc
      cases hc
      exact ⟨keycode_toNat _ _, rfl, rfl, idleRows_getLsbD s.params, rfl⟩
    · simp [firstActiveColumn_of_none hnone] at hc
  | noKey _ hc hl =>
    have h3 : s.regs.fg.row = 3 := lastRow_iff.mp hl
    refine ⟨fun c' hact hlow => ?_, fun _ => ⟨rfl, rfl, ?_⟩⟩
    · simp [firstActiveColumn_of_lowest hact hlow] at hc
    · rw [if_pos h3]
      exact ⟨rfl, idleRows_getLsbD s.params, rfl⟩
  | nextRow _ hc hl =>
    have h3 : s.regs.fg.row ≠ 3 := mt lastRow_iff.mpr (ne_true_of_eq_false hl)
    refine ⟨fun c' hact hlow => ?_, fun _ => ⟨rfl, rfl, ?_⟩⟩
    · simp [firstActiveColumn_of_lowest hact hlow] at hc
    · rw [if_neg h3, ← nextRow_toNat _ h3]
      exact ⟨rfl, rfl, oneHotRow_getLsbD s.params _, startRow_settle hs.1 _ _⟩
  | suppress h | scanStart h | settle h | wait h => simp [hsample] at h

/-! ## The window of a detection (R149) -/

/-- FG is not in the middle of a scan (R153). -/
abbrev OutsideScan (r : Regs) : Prop := r.fg.state = .check ∨ r.fg.state = .dispatch

/-- R141: while the window is open, FG dispatches or suppresses, and neither starts a scan nor detects a key. -/
theorem FgMove.of_suppressed {p : Params} {i : Input} {r r' : Regs} {c : Option Action}
    (h : FgMove p i r c r') (hs : OutsideScan r) (hw : suppressed p r = true) :
    OutsideScan r' ∧ r'.kp.last = r.kp.last ∧ r'.kp.valid = r.kp.valid := by
  cases h with
  | suppress => exact ⟨.inr rfl, rfl, rfl⟩
  | act a => simp [OutsideScan]
  | scanStart _ hopen => simp [hw] at hopen
  | settle h | wait h | detect _ h | noKey h | nextRow h => simp [OutsideScan, h] at hs

/-- A cycle while the window is open stays outside a scan and keeps the detection. -/
theorem step_of_suppressed {s t : State} (h : step s = .next t) (hr : s.input.rst = false)
    (hs : OutsideScan s.regs) (hw : suppressed s.params s.regs = true) :
    OutsideScan t.regs ∧ t.regs.kp.last = s.regs.kp.last ∧ t.regs.kp.valid = s.regs.kp.valid := by
  obtain ⟨rF, _, hF, _, hregs⟩ := step_moves h hr
  rw [hregs]
  exact hF.of_suppressed hs hw

/-- R31: below its last value the timebase counts up as a number. -/
theorem step_now_toNat {s t : State} (h : step s = .next t) (hr : s.input.rst = false)
    (hlt : s.regs.now.toNat + 1 < 2 ^ 64) : t.regs.now.toNat = s.regs.now.toNat + 1 := by
  obtain ⟨_, hcount, _⟩ := timebaseCountsAndMotorIsEnabled s t h
  rw [(hcount hr).1]
  exact toNat_add_one hlt (Nat.lt_succ_self _)

/-- Settles O30, by induction on the cycles: before the window has elapsed, a cycle from outside a scan stays
outside a scan and keeps the detection, and the invariant then has the rows idle. -/
theorem debounceWindowSuppressesEveryScan : Obligations.DebounceWindowSuppressesEveryScan := by
  intro s n
  induction n generalizing s with
  | zero =>
    intro hinv hout hv _ _ _ _
    exact ⟨s, rfl, rfl, hv, hinv.rows.1 hout, hout⟩
  | succ n ih =>
    intro hinv hout hv hle hwrap hwin hq
    obtain ⟨u, hu, huinv⟩ := everyStepKeepsTheInvariant s hinv
    obtain ⟨hparams, henv, _⟩ := step_env hu
    have hw : suppressed s.params s.regs = true := (suppressed_iff fun _ => hle).mpr ⟨hv, by omega⟩
    obtain ⟨huout, hlast, hvalid⟩ := step_of_suppressed hu hq.input hout hw
    have hnow : u.regs.now.toNat = s.regs.now.toNat + 1 := step_now_toNat hu hq.input (by omega)
    rw [BitVec.le_def] at hle
    have hule : u.regs.kp.last ≤ u.regs.now := by
      rw [BitVec.le_def, hlast, hnow]
      omega
    obtain ⟨t, ht, hrest⟩ := ih u huinv huout (hvalid.trans hv) hule (by omega)
      (by rw [hlast, hnow, hparams]; omega) (hq.tail henv)
    rw [hlast, hparams] at hrest
    exact ⟨t, (run_succ hu).trans ht, hrest⟩

end Sys2Proof.Machine
end

section
/-! The sensor decoder cycle by cycle (spec/41_sensor_decoder.md R171 to R184, R190): what a cycle in each of its
states does and what it leaves, and the invariants of the data pin and of the capture. -/

namespace Sys2Proof.Machine

/-! ## The states before the decode (R171 to R180) -/

/-- The states of BG in which a measurement requests and captures. -/
def requestStates : List BgState := [.rate, .high, .low, .cap]

/-- The registers that a measurement leaves before its decode: the stored reading (R44), the latched mode and speed
(R42), the interlock (R43) and the display (R286), whose strobe is 0 again (R288). -/
def RequestFrame (r r' : Regs) : Prop :=
  r'.sn = r.sn ∧ r'.bg.md = r.bg.md ∧ r'.bg.spd = r.bg.spd ∧ r'.tripped = r.tripped ∧
    r'.disp = { r.disp with wr := false }

/-- R286: before the decode no display is refreshed. -/
theorem bgStep_disp_of_request {s : State} (hs : s.regs.bg.state ∈ requestStates) :
    (bgStep s).disp = s.regs.disp := by
  rw [bgStep_disp]
  simp only [requestStates, List.mem_cons, List.not_mem_nil, or_false] at hs
  obtain hs | hs | hs | hs := hs <;> simp [tripsAt, patternAt, offAt, hs]

theorem step_requestFrame {s t : State} (h : step s = .next t) (hr : s.input.rst = false)
    (hs : s.regs.bg.state ∈ requestStates) : RequestFrame s.regs t.regs := by
  have hne {x : BgState} (hx : x ∉ requestStates) : s.regs.bg.state ≠ x := fun e => hx (e ▸ hs)
  obtain ⟨_, _, _, ht, _⟩ := step_regs h hr
  have hB := bgStep_move s.startCycle
  obtain ⟨hmd, hspd⟩ := hB.latched_frame (hne (by decide))
  rw [ht]
  exact ⟨hB.sn_frame (hne (by decide)), hmd, hspd, hB.tripped_frame (hne (by decide)),
    bgStep_disp_of_request (s := s.startCycle) hs⟩

/-! ## The rate limiter (R171, R172) -/

theorem rateLimited_iff {p : Params} {r : Regs} (h : r.sn.rdValid = true → r.sn.lastOk ≤ r.now) :
    rateLimited p r = true ↔
      r.sn.rdValid = true ∧ r.now.toNat - r.sn.lastOk.toNat < p.minInterval := by
  rw [rateLimited, Bool.and_eq_true, decide_eq_true_eq]
  exact and_congr_right fun hv => by rw [elapsed_of_le (h hv)]

/-- R171: a rate-limited measurement goes on to the interlock and leaves the timer, the pin and the capture. -/
theorem step_of_rateLimited {s t : State} (h : step s = .next t) (hr : s.input.rst = false)
    (hs : s.regs.bg.state = .rate) (hl : rateLimited s.params s.regs = true) :
    t.regs.bg.state = .interlock ∧ t.regs.bg.tmr = s.regs.bg.tmr ∧
      t.regs.out.dataOe = s.regs.out.dataOe ∧ t.regs.out.dataOut = s.regs.out.dataOut := by
  obtain ⟨_, _, _, hB, ht⟩ := step_moves h hr
  rw [ht]
  cases hB with
  | cached => exact ⟨rfl, rfl, rfl, rfl⟩
  | request _ hn => cases hn.symm.trans hl
  | _ h => simp [hs] at h

/-- R172: a measurement that is not rate-limited drives the pin high for `P_START_HIGH` cycles. -/
theorem step_of_request {s t : State} (h : step s = .next t) (hr : s.input.rst = false)
    (hs : s.regs.bg.state = .rate) (hl : rateLimited s.params s.regs = false) :
    t.regs.bg.state = .high ∧ t.regs.bg.tmr.toNat = s.params.startHigh - 1 ∧
      t.regs.out.dataOe = true ∧ t.regs.out.dataOut = true := by
  obtain ⟨hp, _⟩ := step_cases h
  obtain ⟨_, hlt⟩ := hold_bounds_of_wf hp (d := s.params.startHigh) (by simp [timerHolds])
  obtain ⟨_, _, _, hB, ht⟩ := step_moves h hr
  rw [ht]
  cases hB with
  | request => exact ⟨rfl, timerLoad_toNat hlt, rfl, rfl⟩
  | cached _ hc => cases hc.symm.trans hl
  | _ h => simp [hs] at h

/-- Settles O31: the rate limiter decides between the two cycles. -/
theorem rateLimiterOrRequest : Obligations.RateLimiterOrRequest := by
  intro s t hr h hs hle
  obtain ⟨hsn, hmd, hspd, htr, hdisp⟩ := step_requestFrame h hr (by simp [requestStates, hs])
  obtain ⟨_, hcap, _⟩ := backgroundRegistersChangeOnlyInTheirStates s t hr h
  refine ⟨hsn, hcap (by simp [hs]) (by simp [hs]), htr, hmd, hspd, hdisp, ?_⟩
  have hiff := rateLimited_iff (p := s.params) hle
  split
  · next hc => exact step_of_rateLimited h hr hs (hiff.mpr hc)
  · next hc => exact step_of_request h hr hs (Bool.eq_false_iff.mpr (mt hiff.mp hc))

/-! ## The request's phases (R173, R174, R176) -/

/-- A down-counter that is not 0 counts down as a number. -/
theorem toNat_sub_one {x : BitVec 24} (hx : x ≠ 0) : (x - 1).toNat = x.toNat - 1 := by bv_omega

/-- R173: the high phase counts down, then the pin is pulled low for `P_REQ_LOW` cycles. -/
theorem step_of_high {s t : State} (h : step s = .next t) (hr : s.input.rst = false)
    (hs : s.regs.bg.state = .high) :
    t.regs.out.dataOe = s.regs.out.dataOe ∧ t.regs.cap = s.regs.cap ∧
      if s.regs.bg.tmr = 0 then
        t.regs.bg.state = .low ∧ t.regs.bg.tmr.toNat = s.params.reqLow - 1 ∧ t.regs.out.dataOut = false
      else
        t.regs.bg.state = .high ∧ t.regs.bg.tmr.toNat = s.regs.bg.tmr.toNat - 1 ∧
        t.regs.out.dataOut = s.regs.out.dataOut := by
  obtain ⟨hp, _⟩ := step_cases h
  obtain ⟨_, hlt⟩ := hold_bounds_of_wf hp (d := s.params.reqLow) (by simp [timerHolds])
  obtain ⟨_, _, _, hB, ht⟩ := step_moves h hr
  rw [ht]
  cases hB with
  | pullLow _ h0 =>
    have h0' : s.regs.bg.tmr = 0 := h0
    rw [if_pos h0']
    exact ⟨rfl, rfl, rfl, timerLoad_toNat hlt, rfl⟩
  | tick _ h0 =>
    have h0' : s.regs.bg.tmr ≠ 0 := h0
    rw [if_neg h0']
    exact ⟨rfl, rfl, hs, toNat_sub_one h0', rfl⟩
  | _ h => simp [hs] at h

/-- R174, R176: the low phase counts down, then the pin is released and the capture begins. -/
theorem step_of_low {s t : State} (h : step s = .next t) (hr : s.input.rst = false)
    (hs : s.regs.bg.state = .low) :
    t.regs.out.dataOut = s.regs.out.dataOut ∧
      if s.regs.bg.tmr = 0 then
        t.regs.bg.state = .cap ∧ t.regs.bg.tmr = s.regs.bg.tmr ∧ t.regs.out.dataOe = false ∧
        t.regs.cap = { d := s.regs.cap.d, val := true, idx := 0, unch := 0, ts := s.regs.now + 1,
                       overrun := false }
      else
        t.regs.bg.state = .low ∧ t.regs.bg.tmr.toNat = s.regs.bg.tmr.toNat - 1 ∧
        t.regs.out.dataOe = s.regs.out.dataOe ∧ t.regs.cap = s.regs.cap := by
  obtain ⟨_, _, _, hB, ht⟩ := step_moves h hr
  rw [ht]
  cases hB with
  | release _ h0 =>
    have h0' : s.regs.bg.tmr = 0 := h0
    rw [if_pos h0']
    exact ⟨rfl, rfl, rfl, rfl, rfl⟩
  | tick _ h0 =>
    have h0' : s.regs.bg.tmr ≠ 0 := h0
    rw [if_neg h0']
    exact ⟨rfl, hs, toNat_sub_one h0', rfl, rfl⟩
  | _ h => simp [hs] at h

/-- Settles O32: the frame of a request and its two phases. -/
theorem requestPhases : Obligations.RequestPhases := by
  intro s t hr h
  refine ⟨fun hs => ?_, step_of_high h hr, step_of_low h hr⟩
  obtain ⟨hsn, hmd, hspd, htr, hdisp⟩ :=
    step_requestFrame h hr (by obtain hs | hs := hs <;> simp [requestStates, hs])
  exact ⟨hmd, hspd, hsn, htr, hdisp⟩

/-! ## The capture (R177 to R180) -/

/-- R178: a duration of at most 255 cycles is stored as it is. -/
theorem pulseDuration_of_le {now ts : Time} (h : ts ≤ now) (h255 : now.toNat - ts.toNat ≤ 255) :
    (pulseDuration now ts).toNat = now.toNat - ts.toNat := by
  rw [pulseDuration, BitVec.toNat_setWidth, BitVec.toNat_sub_of_le h, Nat.mod_eq_of_lt (by omega)]

/-- A capture's move leaves the timer, and stays or goes on to the decode. -/
theorem BgMove.of_cap {p : Params} {i : Input} {n : Nat} {r r' : Regs} (h : BgMove p i n r r')
    (hs : r.bg.state = .cap) : r'.bg.tmr = r.bg.tmr ∧ (r'.bg.state = .cap ∨ r'.bg.state = .dec) := by
  cases h with
  | record | unchanged => exact ⟨rfl, .inl hs⟩
  | overrun | stall => exact ⟨rfl, .inr rfl⟩
  | _ h => simp [hs] at h

/-- R178: what a recorded transition writes to the capture. -/
theorem captureRecord_cap {p : Params} {i : Input} {r : Regs} (hp : paramsWf p = true)
    (hlen : r.cap.d.length = p.expected) (hl : r.cap.idx.toNat < p.expected) :
    (captureRecord i r).cap.idx.toNat = r.cap.idx.toNat + 1 ∧
    (captureRecord i r).cap.d.length = r.cap.d.length ∧
    (∀ j, j ≠ r.cap.idx.toNat → capRead (captureRecord i r).cap.d j = capRead r.cap.d j) ∧
    (r.cap.ts ≤ r.now → r.now.toNat - r.cap.ts.toNat ≤ 255 →
      (capRead (captureRecord i r).cap.d r.cap.idx.toNat).toNat = r.now.toNat - r.cap.ts.toNat) := by
  have hexp := expected_le_of_wf hp
  refine ⟨toNat_add_one (b := p.expected) (by omega) hl, capWrite_length _ _ _,
    fun j hj => capRead_capWrite_other _ hj, fun hts h255 => ?_⟩
  exact (congrArg BitVec.toNat (capRead_capWrite_self _ (hlen ▸ hl))).trans (pulseDuration_of_le hts h255)

/-- Settles O34: the frame of a request, and the capture after each of the four moves. -/
theorem captureSamplesThePin : Obligations.CaptureSamplesThePin := by
  intro s t hr h hs
  obtain ⟨hp, ⟨hr', _⟩ | ⟨_, hdom, _⟩⟩ := step_cases h
  · simp [hr] at hr'
  obtain ⟨hsn, hmd, hspd, htr, hdisp⟩ := step_requestFrame h hr (by simp [requestStates, hs])
  obtain ⟨_, _, _, hlen⟩ := (domainOk_iff _ _).mp hdom
  obtain ⟨_, rB, _, hB, ht⟩ := step_moves h hr
  obtain ⟨hoe, hout⟩ := hB.pin_frame (by simp [hs]) (by simp [hs]) (by simp [hs])
  refine ⟨hsn, hmd, hspd, ht ▸ (hB.of_cap hs).1, htr, hdisp, ht ▸ hoe, ht ▸ hout, ?_⟩
  rw [ht]
  cases hB with
  | record _ hd hl =>
    have hd' : s.input.data ≠ s.regs.cap.val := hd
    have hl' : s.regs.cap.idx.toNat < s.params.expected := hl
    obtain ⟨hidx, hlen', hother, hself⟩ := captureRecord_cap (i := s.input) hp hlen hl'
    rw [if_neg hd', if_pos hl']
    exact ⟨hs, rfl, hidx, rfl, rfl, rfl, hlen', hother, hself⟩
  | overrun _ hd hl =>
    have hd' : s.input.data ≠ s.regs.cap.val := hd
    have hl' : ¬ s.regs.cap.idx.toNat < s.params.expected := Nat.not_lt.mpr hl
    rw [if_neg hd', if_neg hl']
    exact ⟨rfl, rfl⟩
  | stall _ hd hu =>
    have hd' : s.input.data = s.regs.cap.val := hd
    have hu' : s.regs.cap.unch.toNat = s.params.maxUnchanged - 1 := hu
    rw [if_pos hd', if_pos hu']
    exact ⟨rfl, rfl, rfl, rfl, rfl, rfl, rfl⟩
  | unchanged _ hd hu =>
    have hd' : s.input.data = s.regs.cap.val := hd
    have hu' : s.regs.cap.unch.toNat ≠ s.params.maxUnchanged - 1 := hu
    rw [if_pos hd', if_neg hu']
    exact ⟨rfl, rfl, rfl, rfl, rfl, hs, rfl⟩
  | _ h => simp [hs] at h

/-! ## The invariants of the pin and of the capture (R175, R177, R186, R190) -/

/-- Settles O43: the reset state has the pin released, and BG's moves keep it matched. -/
theorem dataPinDrivenOnlyInARequest : Obligations.DataPinDrivenOnlyInARequest := by
  intro s t h hpin
  obtain ht | ⟨_, _, _, hB, ht⟩ := step_reset_or_moves h <;> rw [ht]
  · simp [PinMatch, resetRegs]
  · exact hB.pinMatch hpin

/-- Settles O35: no capture is in progress after a reset, and a cycle's merge keeps a capture sound. -/
theorem captureStaysSound : Obligations.CaptureStaysSound := by
  intro s t h hsound
  obtain ⟨hp, _⟩ := step_cases h
  rw [(step_env h).1]
  obtain ht | ⟨_, _, hF, hB, ht⟩ := step_reset_or_moves h <;> rw [ht]
  · simp [CaptureSound, resetRegs]
  · exact captureSound_merge hF hB hp hsound

/-- Settles O36: no capture is in progress after a reset, and BG's moves keep its durations bounded. -/
theorem durationsStayBounded : Obligations.DurationsStayBounded := by
  intro s t h hsound hbounded
  rw [(step_env h).1]
  obtain ⟨hp, ⟨_, rfl⟩ | ⟨hr, hdom, _⟩⟩ := step_cases h
  · simp [DurationsBounded, resetRegs]
  · obtain ⟨_, _, _, hlen⟩ := (domainOk_iff _ _).mp hdom
    obtain ⟨_, _, _, hB, ht⟩ := step_moves h hr
    rw [ht]
    exact hB.durationsBounded hp hlen hsound hbounded

/-! ## The outcome of a measurement (R182 to R184, R304) -/

/-- R182: the count is wrong after one transition too many or at any count but `P_EXPECTED`. -/
theorem countWrong_iff {p : Params} {r : Regs} :
    countWrong p r = true ↔ r.cap.overrun = true ∨ r.cap.idx.toNat ≠ p.expected := by
  rw [countWrong, Bool.or_eq_true, decide_eq_true_eq]

/-- R183: the checksum of a frame, as numbers. -/
theorem checksumOk_iff {f : Frame} :
    checksumOk f = true ↔ (f.b0.toNat + f.b1.toNat + f.b2.toNat + f.b3.toNat) % 256 = f.b4.toNat := by
  rw [checksumOk, beq_iff_eq, ← BitVec.toNat_inj]
  simp only [BitVec.toNat_add, Nat.mod_add_mod, Nat.reducePow]

/-- Settles O39: the count and then the checksum decide between the three moves of `S_DEC`. -/
theorem measurementOutcome : Obligations.MeasurementOutcome := by
  intro s t hr h hs
  obtain ⟨_, _, _, hB, ht⟩ := step_moves h hr
  have hcount : countWrong s.params s.regs.clearStrobes = true ↔
    s.regs.cap.overrun = true ∨ s.regs.cap.idx.toNat ≠ s.params.expected := countWrong_iff
  have hsum := checksumOk_iff (f := decodeFrame s.params s.regs.cap.d)
  dsimp only
  rw [ht]
  cases hB with
  | badCount _ hc =>
    rw [if_pos (hcount.mp hc)]
    exact ⟨rfl, rfl⟩
  | store _ hc hk =>
    rw [if_neg (mt hcount.mpr (ne_true_of_eq_false hc)), if_pos (hsum.mp hk)]
    exact ⟨rfl, rfl⟩
  | badChecksum _ hc hk =>
    rw [if_neg (mt hcount.mpr (ne_true_of_eq_false hc)), if_neg (mt hsum.mpr (ne_true_of_eq_false hk))]
    exact ⟨rfl, rfl⟩
  | _ h => simp [hs] at h

end Sys2Proof.Machine
end

section
/-! The bit decoder (spec/41_sensor_decoder.md R181, R188, R189; spec/30_encoding.md R112): the frame bit by bit and
byte by byte, and what its checksum detects. -/

namespace Sys2Proof.Machine

/-! ## The frame's bits (R181) -/

/-- The first `n` of the given bits, the first ending highest: `frameWord` packs the 40 frame bits so. -/
def packBits (f : Nat → Bool) (n : Nat) : BitVec 40 :=
  (List.range n).foldl (fun w j => (w <<< 1) ||| (BitVec.ofBool (f j)).setWidth 40) 0

theorem frameWord_eq_packBits (p : Params) (d : List Byte) : frameWord p d = packBits (frameBit p d) 40 := rfl

theorem packBits_succ (f : Nat → Bool) (n : Nat) :
    packBits f (n + 1) = (packBits f n <<< 1) ||| (BitVec.ofBool (f n)).setWidth 40 := by
  simp [packBits, List.range_succ]

theorem packBits_getLsbD (f : Nat → Bool) (n : Nat) {i : Nat} (hi : i < 40) :
    (packBits f n).getLsbD i = (decide (i < n) && f (n - 1 - i)) := by
  induction n generalizing i with
  | zero => simp [packBits]
  | succ n ih =>
    rw [packBits_succ, BitVec.getLsbD_or, BitVec.getLsbD_shiftLeft, BitVec.getLsbD_setWidth]
    cases i with
    | zero => simp
    | succ i =>
      have hsub : n - 1 - i = n - (i + 1) := by omega
      simp [ih (show i < 40 by omega), hi, hsub]

/-- R181: bit `39 - j` of the frame is frame bit `j`. -/
theorem frameWord_getLsbD (p : Params) (d : List Byte) {j : Nat} (hj : j < 40) :
    (frameWord p d).getLsbD (39 - j) = frameBit p d j := by
  have h39 : 40 - 1 - (39 - j) = j := by omega
  rw [frameWord_eq_packBits, packBits_getLsbD _ _ (by omega), h39, decide_eq_true (by omega), Bool.true_and]

/-! ## The frame's bytes (R112) -/

/-- Byte `k` of a frame, the first received being 0. -/
def Frame.byte (f : Frame) (k : Fin 5) : Byte := [f.b0, f.b1, f.b2, f.b3, f.b4][k]

theorem Frame.ext_byte {f g : Frame} (h : ∀ k, f.byte k = g.byte k) : f = g := by
  obtain ⟨_, _, _, _, _⟩ := f
  obtain ⟨_, _, _, _, _⟩ := g
  exact Frame.mk.injEq .. ▸ ⟨h 0, h 1, h 2, h 3, h 4⟩

/-- R112: `b_k` is `W[39 - 8k : 32 - 8k]`. -/
theorem frameOfWord_byte (w : BitVec 40) (k : Fin 5) :
    (frameOfWord w).byte k = w.extractLsb' (32 - 8 * k.val) 8 := by
  match k with
  | 0 | 1 | 2 | 3 | 4 => rfl

/-- R181: bit `7 - i` of byte `k` is frame bit `8k + i`. -/
theorem decodeFrame_getLsbD (p : Params) (d : List Byte) (k : Fin 5) (i : Fin 8) :
    ((decodeFrame p d).byte k).getLsbD (7 - i.val) = frameBit p d (8 * k.val + i.val) := by
  have hpos : 32 - 8 * k.val + (7 - i.val) = 39 - (8 * k.val + i.val) := by omega
  rw [decodeFrame, frameOfWord_byte, BitVec.getLsbD_extractLsb', hpos, frameWord_getLsbD p d (by omega),
    decide_eq_true (by omega), Bool.true_and]

theorem frameBit_congr {p : Params} {d d' : List Byte} {j : Nat}
    (h : capRead d' (p.bitBase + 2 * j) = capRead d (p.bitBase + 2 * j)) : frameBit p d' j = frameBit p d j := by
  rw [frameBit, frameBit, h]

/-- Two buffers with the same eight frame bits of a byte decode to the same byte. -/
theorem decodeFrame_byte_congr {p : Params} {d d' : List Byte} {k : Fin 5}
    (h : ∀ i : Fin 8, frameBit p d' (8 * k.val + i.val) = frameBit p d (8 * k.val + i.val)) :
    (decodeFrame p d').byte k = (decodeFrame p d).byte k := by
  refine BitVec.eq_of_getLsbD_eq fun i hi => ?_
  have hbit := h ⟨7 - i, by omega⟩
  rw [← decodeFrame_getLsbD, ← decodeFrame_getLsbD] at hbit
  simpa [show 7 - (7 - i) = i by omega] using hbit

/-- Settles O38: the decode reads inside the buffer. -/
theorem frameBitsAreThresholdedDurations : Obligations.FrameBitsAreThresholdedDurations := by
  intro p d hp k i
  have hlt : p.bitBase + 2 * (8 * k.val + i.val) < d.length := by omega
  have hread : capRead d (p.bitBase + 2 * (8 * k.val + i.val)) = d[p.bitBase + 2 * (8 * k.val + i.val)] := by
    rw [capRead, List.getD_eq_getElem _ _ hlt]
  rw [← hread]
  exact decodeFrame_getLsbD p d k i

/-! ## The round trip of a frame (R188) -/

/-- R112: bit `i` of byte `k` of five joined bytes. -/
theorem append_getLsbD (b0 b1 b2 b3 b4 : Byte) (k : Fin 5) {i : Nat} (hi : i < 8) :
    (b0 ++ b1 ++ b2 ++ b3 ++ b4).getLsbD (32 - 8 * k.val + i) = [b0, b1, b2, b3, b4][k].getLsbD i := by
  simp only [BitVec.getLsbD_append]
  match k with
  | 0 | 1 | 2 | 3 | 4 => grind

/-- R112: the bytes of a frame, joined and taken apart again. -/
theorem frameOfWord_append (b0 b1 b2 b3 b4 : Byte) :
    frameOfWord (b0 ++ b1 ++ b2 ++ b3 ++ b4) = { b0 := b0, b1 := b1, b2 := b2, b3 := b3, b4 := b4 } := by
  refine Frame.ext_byte fun k => ?_
  refine BitVec.eq_of_getLsbD_eq fun i hi => ?_
  rw [frameOfWord_byte, BitVec.getLsbD_extractLsb', decide_eq_true hi, Bool.true_and]
  exact append_getLsbD b0 b1 b2 b3 b4 k hi

/-- R188: a buffer whose durations carry the bits of a frame decodes to its bytes. -/
theorem decodeFrame_of_bits {p : Params} {d : List Byte} {b0 b1 b2 b3 b4 : Byte}
    (h : ∀ j, j < 40 → (p.bitThreshold < (capRead d (p.bitBase + 2 * j)).toNat ↔
      (b0 ++ b1 ++ b2 ++ b3 ++ b4).getLsbD (39 - j) = true)) :
    decodeFrame p d = { b0 := b0, b1 := b1, b2 := b2, b3 := b3, b4 := b4 } := by
  have hword : frameWord p d = b0 ++ b1 ++ b2 ++ b3 ++ b4 := by
    refine BitVec.eq_of_getLsbD_eq fun i hi => ?_
    have hbit := frameWord_getLsbD p d (j := 39 - i) (by omega)
    have hj := h (39 - i) (by omega)
    rw [show 39 - (39 - i) = i by omega] at hbit hj
    rw [hbit, Bool.eq_iff_iff, frameBit, decide_eq_true_eq, hj]
  rw [decodeFrame, hword, frameOfWord_append]

/-- Settles O41: of the moves of `S_DEC` only the store has the right count and a passing checksum. -/
theorem decodeRoundTrip : Obligations.DecodeRoundTrip := by
  intro s t b0 b1 b2 b3 b4 hr h hs hover hidx hsum hbits
  have hf := decodeFrame_of_bits hbits
  obtain ⟨_, hsn⟩ := measurementOutcome s t hr h hs
  rw [hsn, hf, if_neg (by simp [hover, hidx]), if_pos]
  exact checksumOk_iff.mp (beq_iff_eq.mpr hsum)

/-! ## What the checksum detects (R189) -/

theorem checksumOk_iff_byte {f : Frame} :
    checksumOk f = true ↔ f.byte 0 + f.byte 1 + f.byte 2 + f.byte 3 = f.byte 4 := beq_iff_eq

/-- R183: two frames with a passing checksum that agree on four bytes agree on the fifth. -/
theorem byte_eq_of_checksumOk {f g : Frame} (hf : checksumOk f = true) (hg : checksumOk g = true) {k : Fin 5}
    (h : ∀ k', k' ≠ k → f.byte k' = g.byte k') : f.byte k = g.byte k := by
  rw [checksumOk_iff_byte] at hf hg
  match k with
  | 0 =>
    linear_combination hf - hg - h 1 (by decide) - h 2 (by decide) - h 3 (by decide) + h 4 (by decide)
  | 1 =>
    linear_combination hf - hg - h 0 (by decide) - h 2 (by decide) - h 3 (by decide) + h 4 (by decide)
  | 2 =>
    linear_combination hf - hg - h 0 (by decide) - h 1 (by decide) - h 3 (by decide) + h 4 (by decide)
  | 3 =>
    linear_combination hf - hg - h 0 (by decide) - h 1 (by decide) - h 2 (by decide) + h 4 (by decide)
  | 4 =>
    linear_combination hg - hf + h 0 (by decide) + h 1 (by decide) + h 2 (by decide) + h 3 (by decide)

/-- R189: with one frame bit flipped a passing checksum fails. -/
theorem checksumOk_of_flip {p : Params} {d d' : List Byte} {j : Nat} (hj : j < 40)
    (hd : checksumOk (decodeFrame p d) = true) (hflip : frameBit p d' j = !frameBit p d j)
    (hsame : ∀ m, m ≠ j → frameBit p d' m = frameBit p d m) : checksumOk (decodeFrame p d') = false := by
  by_contra hd'
  rw [Bool.not_eq_false] at hd'
  obtain ⟨k, i, rfl⟩ : ∃ (k : Fin 5) (i : Fin 8), j = 8 * k.val + i.val :=
    ⟨⟨j / 8, by omega⟩, ⟨j % 8, by omega⟩, (Nat.div_add_mod j 8).symm⟩
  have hbyte : (decodeFrame p d').byte k = (decodeFrame p d).byte k :=
    byte_eq_of_checksumOk hd' hd fun k' hk' => decodeFrame_byte_congr fun m => hsame _ (by omega)
  rw [← decodeFrame_getLsbD, ← decodeFrame_getLsbD, hbyte] at hflip
  simp at hflip

/-- Settles O42: entries differ only where a frame bit flips, and equal decoded entries give equal bytes. -/
theorem oneFlippedDurationIsDetected : Obligations.OneFlippedDurationIsDetected := by
  intro p d d'
  refine ⟨fun j hj hd hsame hflip => ?_, fun hsame => Frame.ext_byte fun k => ?_⟩
  · exact checksumOk_of_flip hj hd hflip fun m hm => frameBit_congr (hsame _ (by omega))
  · exact decodeFrame_byte_congr fun i => frameBit_congr (hsame _ (by omega))

end Sys2Proof.Machine
end

section
/-! Runs of a measurement (spec/41_sensor_decoder.md R175, R185): how a run is taken apart, the request pulse from
its two holds, and the end of a capture. -/

namespace Sys2Proof.Machine

/-! ## Runs -/

theorem run_succ_next {n : Nat} {s t : State} :
    run (n + 1) s = .next t ↔ ∃ u, step s = .next u ∧ run n u = .next t := by
  refine ⟨fun h => ?_, fun ⟨_, hu, h⟩ => (run_succ hu).trans h⟩
  cases hs : step s with
  | next u => exact ⟨u, rfl, (run_succ hs).symm.trans h⟩
  | fault f => exact absurd hs (step_ne_fault s f)
  | refused r =>
    have : Sys2Proof.core.step s = .refused r := hs
    simp [run, Host.Core.run, this] at h

theorem run_add_next {m n : Nat} {s t : State} :
    run (m + n) s = .next t ↔ ∃ u, run m s = .next u ∧ run n u = .next t := by
  induction m generalizing s with
  | zero => simp
  | succ m ih =>
    rw [Nat.add_right_comm, run_succ_next]
    simp only [ih, run_succ_next]
    exact ⟨fun ⟨v, hv, u, hu, h⟩ => ⟨u, ⟨v, hv, hu⟩, h⟩, fun ⟨u, ⟨v, hv, hu⟩, h⟩ => ⟨v, hv, u, hu, h⟩⟩

/-- From a state with the invariant every run completes and keeps it. -/
theorem run_blockInv (n : Nat) {s : State} (hs : BlockInv s) : ∃ t, run n s = .next t ∧ BlockInv t := by
  induction n generalizing s with
  | zero => exact ⟨s, rfl, hs⟩
  | succ n ih =>
    obtain ⟨u, hu, huinv⟩ := everyStepKeepsTheInvariant s hs
    obtain ⟨t, ht, htinv⟩ := ih huinv
    exact ⟨t, (run_succ hu).trans ht, htinv⟩

theorem run_params {n : Nat} {s t : State} (h : run n s = .next t) : t.params = s.params := by
  induction n generalizing s with
  | zero =>
    cases h
    rfl
  | succ n ih =>
    obtain ⟨u, hu, h⟩ := run_succ_next.mp h
    exact (ih h).trans (step_env hu).1

/-- A run through the quiet cycles leaves the rest of them quiet. -/
theorem QuietFor.after_run {m n : Nat} {s t : State} (hq : QuietFor s (m + n)) (h : run m s = .next t) :
    QuietFor t n := by
  induction m generalizing s with
  | zero =>
    cases h
    rwa [Nat.zero_add] at hq
  | succ m ih =>
    obtain ⟨u, hu, h⟩ := run_succ_next.mp h
    rw [Nat.add_right_comm] at hq
    exact ih (hq.tail (step_env hu).2.1) h

theorem QuietFor.mono {m n : Nat} {s : State} (hq : QuietFor s n) (h : m ≤ n) : QuietFor s m := by
  obtain ⟨hl, hi⟩ := hq
  exact ⟨h.trans hl, fun i hm => hi i (List.take_subset_take_left _ h hm)⟩

/-! ## The two holds of a request (R173, R174) -/

/-- R173, R174: while its timer runs, a phase of the request goes on and counts down. -/
theorem step_of_holding {s t : State} (h : step s = .next t) (hr : s.input.rst = false)
    (hs : s.regs.bg.state = .high ∨ s.regs.bg.state = .low) (h0 : s.regs.bg.tmr ≠ 0) :
    t.regs.bg.state = s.regs.bg.state ∧ t.regs.bg.tmr.toNat = s.regs.bg.tmr.toNat - 1 := by
  obtain hs | hs := hs
  · obtain ⟨_, _, hphase⟩ := step_of_high h hr hs
    rw [if_neg h0] at hphase
    obtain ⟨hstate, htmr, _⟩ := hphase
    exact ⟨hstate.trans hs.symm, htmr⟩
  · obtain ⟨_, hphase⟩ := step_of_low h hr hs
    rw [if_neg h0] at hphase
    obtain ⟨hstate, htmr, _⟩ := hphase
    exact ⟨hstate.trans hs.symm, htmr⟩

/-- R173, R174: the phase goes on for as many cycles as its timer counts. -/
theorem run_of_holding {k : Nat} {s t : State} (h : run k s = .next t) (hq : QuietFor s k)
    (hs : s.regs.bg.state = .high ∨ s.regs.bg.state = .low) (hk : k ≤ s.regs.bg.tmr.toNat) :
    t.regs.bg.state = s.regs.bg.state ∧ t.regs.bg.tmr.toNat = s.regs.bg.tmr.toNat - k := by
  induction k generalizing s with
  | zero =>
    cases h
    exact ⟨rfl, rfl⟩
  | succ k ih =>
    obtain ⟨u, hu, h⟩ := run_succ_next.mp h
    have h0 : s.regs.bg.tmr ≠ 0 := fun e => by simp [e] at hk
    obtain ⟨hstate, htmr⟩ := step_of_holding hu hq.input hs h0
    obtain ⟨hstate', htmr'⟩ := ih h (hq.tail (step_env hu).2.1) (hstate ▸ hs) (by omega)
    exact ⟨hstate'.trans hstate, by omega⟩

/-- R48: a phase that is entered with `D - 1` has its timer at 0 in its last cycle, the `D`-th. -/
theorem last_of_holding {d : Nat} {s t : State} (h : run d s = .next t) (hq : QuietFor s d) (hd : 1 ≤ d)
    (hs : s.regs.bg.state = .high ∨ s.regs.bg.state = .low) (htmr : s.regs.bg.tmr.toNat = d - 1) :
    ∃ u, step u = .next t ∧ u.input.rst = false ∧
      u.regs.bg.state = s.regs.bg.state ∧ u.regs.bg.tmr = 0 := by
  obtain ⟨k, rfl⟩ := Nat.exists_eq_add_of_le' hd
  obtain ⟨u, hu, hlast⟩ := run_add_next.mp h
  obtain ⟨_, hstep, hz⟩ := run_succ_next.mp hlast
  cases hz
  obtain ⟨hstate, hcount⟩ := run_of_holding hu (hq.mono (by omega)) hs (by omega)
  exact ⟨u, hstep, (hq.after_run hu).input, hstate, BitVec.eq_of_toNat_eq (by simp [hcount, htmr])⟩

/-! ## The request pulse (R175) -/

/-- R175: while a phase goes on the pin is driven at the phase's level, as the invariant has it. -/
theorem pin_of_holding {k : Nat} {s : State} (hinv : BlockInv s) (hq : QuietFor s k)
    (hs : s.regs.bg.state = .high ∨ s.regs.bg.state = .low) (hk : k ≤ s.regs.bg.tmr.toNat) :
    ∃ t, run k s = .next t ∧ t.regs.out.dataOe = true ∧
      t.regs.out.dataOut = decide (s.regs.bg.state = .high) := by
  obtain ⟨t, ht, htinv⟩ := run_blockInv k hinv
  obtain ⟨hstate, _⟩ := run_of_holding ht hq hs hk
  obtain ⟨hoe, hhigh, hlow⟩ := htinv.pin
  refine ⟨t, ht, hoe.mpr (hstate ▸ hs), ?_⟩
  obtain hs | hs := hs
  · rw [hhigh (hstate.trans hs), decide_eq_true hs]
  · rw [hlow (hstate.trans hs), hs]
    rfl

/-- R173: the high phase gives way to the low phase, whose timer is loaded. -/
theorem run_of_high {s : State} (hinv : BlockInv s) (hs : s.regs.bg.state = .high)
    (htmr : s.regs.bg.tmr.toNat = s.params.startHigh - 1) (hq : QuietFor s s.params.startHigh) :
    ∃ t, run s.params.startHigh s = .next t ∧ BlockInv t ∧ t.regs.bg.state = .low ∧
      t.regs.bg.tmr.toNat = t.params.reqLow - 1 := by
  obtain ⟨hpos, _⟩ := hold_bounds_of_wf hinv.params (d := s.params.startHigh) (by simp [timerHolds])
  obtain ⟨t, ht, htinv⟩ := run_blockInv s.params.startHigh hinv
  obtain ⟨u, hu, hr, hstate, h0⟩ := last_of_holding ht hq hpos (.inl hs) htmr
  obtain ⟨_, _, hpull⟩ := step_of_high hu hr (hstate.trans hs)
  rw [if_pos h0] at hpull
  obtain ⟨hlow, hload, _⟩ := hpull
  exact ⟨t, ht, htinv, hlow, by rw [hload, (step_env hu).1]⟩

/-- R174, R176: the low phase gives way to the capture, with the pin released. -/
theorem run_of_low {s : State} (hinv : BlockInv s) (hs : s.regs.bg.state = .low)
    (htmr : s.regs.bg.tmr.toNat = s.params.reqLow - 1) (hq : QuietFor s s.params.reqLow) :
    ∃ t, run s.params.reqLow s = .next t ∧ t.regs.out.dataOe = false ∧ t.regs.bg.state = .cap := by
  obtain ⟨hpos, _⟩ := hold_bounds_of_wf hinv.params (d := s.params.reqLow) (by simp [timerHolds])
  obtain ⟨t, ht, _⟩ := run_blockInv s.params.reqLow hinv
  obtain ⟨u, hu, hr, hstate, h0⟩ := last_of_holding ht hq hpos (.inr hs) htmr
  obtain ⟨_, hrelease⟩ := step_of_low hu hr (hstate.trans hs)
  rw [if_pos h0] at hrelease
  obtain ⟨hcap, _, hoe, _⟩ := hrelease
  exact ⟨t, ht, hoe, hcap⟩

/-- Settles O33: the request's cycle to `u`, then the high phase to `v`, then the low phase. -/
theorem requestPulseAtThePin : Obligations.RequestPulseAtThePin := by
  intro s hs hrate hlim hq
  obtain ⟨u, hu, huinv⟩ := everyStepKeepsTheInvariant s hs
  obtain ⟨hhigh, hutmr, _⟩ := step_of_request hu hq.input hrate hlim
  have huq : QuietFor u (s.params.startHigh + s.params.reqLow) := hq.tail (step_env hu).2.1
  have hup := (step_env hu).1
  rw [← hup] at hutmr huq ⊢
  obtain ⟨v, hv, hvinv, hlow, hvtmr⟩ := run_of_high huinv hhigh hutmr (huq.mono (by omega))
  have hvq := huq.after_run hv
  rw [← run_params hv] at hvq
  refine ⟨fun k hk => ?_, ?_⟩
  · by_cases hkh : k < u.params.startHigh
    · obtain ⟨t, ht, hoe, hout⟩ := pin_of_holding huinv (huq.mono (by omega)) (.inl hhigh) (k := k) (by omega)
      exact ⟨t, (run_succ hu).trans ht, hoe, by rw [hout, decide_eq_true hhigh, decide_eq_true hkh]⟩
    · obtain ⟨j, rfl⟩ := Nat.exists_eq_add_of_le (Nat.le_of_not_lt hkh)
      rw [← run_params hv] at hk
      obtain ⟨t, ht, hoe, hout⟩ := pin_of_holding hvinv (hvq.mono (by omega)) (.inr hlow) (k := j) (by omega)
      exact ⟨t, (run_succ hu).trans (run_add_next.mpr ⟨v, hv, ht⟩), hoe,
        by rw [hout, hlow, decide_eq_false hkh]; rfl⟩
  · obtain ⟨t, ht, hoe, hcap⟩ := run_of_low hvinv hlow hvtmr hvq
    rw [run_params hv] at ht
    exact ⟨t, (run_succ hu).trans (run_add_next.mpr ⟨v, hv, ht⟩), hoe, hcap⟩

/-! ## The end of a capture (R185) -/

/-- The cycles that a capture can still last: a full stall for each transition that can still be recorded, and the
rest of the present one. -/
def captureBudget (p : Params) (r : Regs) : Nat :=
  (p.expected - r.cap.idx.toNat) * p.maxUnchanged + (p.maxUnchanged - r.cap.unch.toNat)

/-- R178 to R180: a cycle of a capture ends it or uses up some of its budget. -/
theorem BgMove.captureBudget_lt {p : Params} {i : Input} {n : Nat} {r r' : Regs} (h : BgMove p i n r r')
    (hp : paramsWf p = true) (hs : r.bg.state = .cap) (hc : CaptureSound p r) :
    r'.bg.state = .dec ∨ (r'.bg.state = .cap ∧ captureBudget p r' < captureBudget p r) := by
  have hexp := expected_le_of_wf hp
  have hmax := maxUnchanged_le_of_wf hp
  obtain ⟨_, _, hunch, _⟩ := hc hs
  cases h with
  | overrun | stall => exact .inl rfl
  | record _ _ hl =>
    have hidx : (r.cap.idx + 1).toNat = r.cap.idx.toNat + 1 := toNat_add_one (b := p.expected) (by omega) hl
    obtain ⟨left, hleft⟩ := Nat.exists_eq_add_of_lt hl
    refine .inr ⟨hs, ?_⟩
    change (p.expected - (r.cap.idx + 1).toNat) * p.maxUnchanged + (p.maxUnchanged - 0) <
      (p.expected - r.cap.idx.toNat) * p.maxUnchanged + (p.maxUnchanged - r.cap.unch.toNat)
    rw [hidx, show p.expected - r.cap.idx.toNat = left + 1 by omega,
      show p.expected - (r.cap.idx.toNat + 1) = left by omega, Nat.add_one_mul]
    omega
  | unchanged =>
    have hcount : (r.cap.unch + 1).toNat = r.cap.unch.toNat + 1 :=
      toNat_add_one (b := p.maxUnchanged) (by omega) hunch
    refine .inr ⟨hs, Nat.add_lt_add_left ?_ _⟩
    change p.maxUnchanged - (r.cap.unch + 1).toNat < p.maxUnchanged - r.cap.unch.toNat
    omega
  | _ h => simp [hs] at h

theorem step_of_capture {s t : State} (h : step s = .next t) (hr : s.input.rst = false)
    (hinv : BlockInv s) (hs : s.regs.bg.state = .cap) :
    t.regs.bg.state = .dec ∨
      (t.regs.bg.state = .cap ∧ captureBudget t.params t.regs < captureBudget s.params s.regs) := by
  obtain ⟨_, _, _, hB, ht⟩ := step_moves h hr
  rw [(step_env h).1, ht]
  exact hB.captureBudget_lt hinv.params hs hinv.capture

/-- R185, for a capture in progress: it ends within its budget. -/
theorem capture_ends_within_budget {b : Nat} {s : State} (hinv : BlockInv s) (hs : s.regs.bg.state = .cap)
    (hb : captureBudget s.params s.regs ≤ b) (hq : QuietFor s b) :
    ∃ n t, 1 ≤ n ∧ n ≤ b ∧ run n s = .next t ∧ t.regs.bg.state = .dec ∧
      ∀ m u, m < n → run m s = .next u → u.regs.bg.state = .cap := by
  induction b generalizing s with
  | zero =>
    obtain ⟨_, _, hunch, _⟩ := hinv.capture hs
    unfold captureBudget at hb
    omega
  | succ b ih =>
    obtain ⟨v, hv, hvinv⟩ := everyStepKeepsTheInvariant s hinv
    obtain hdec | ⟨hcap, hlt⟩ := step_of_capture hv hq.input hinv hs
    · refine ⟨1, v, Nat.le_refl 1, by omega, run_succ hv, hdec, fun m u hm hu => ?_⟩
      obtain rfl : m = 0 := by omega
      cases hu
      exact hs
    · obtain ⟨n, t, _, hn, ht, hdec, hbefore⟩ := ih hvinv hcap (by omega) (hq.tail (step_env hv).2.1)
      refine ⟨n + 1, t, by omega, by omega, (run_succ hv).trans ht, hdec, fun m u hm hu => ?_⟩
      cases m with
      | zero =>
        cases hu
        exact hs
      | succ m => exact hbefore m u (by omega) ((run_succ hv).symm.trans hu)

/-- Settles O37: the budget of a capture at its start. -/
theorem captureAlwaysEnds : Obligations.CaptureAlwaysEnds := by
  intro s hinv hs hidx hunch hq
  refine capture_ends_within_budget hinv hs ?_ hq
  simp [captureBudget, hidx, hunch, Nat.add_one_mul]

end Sys2Proof.Machine
end

section
/-! The dispatcher (spec/42_dispatcher.md R220 to R225): what an instruction answers, what each of the four actions
writes, the frame that all of them share, and the step that runs a decoded keycode. -/

namespace Sys2Proof.Machine

/-! ## What an instruction answers (R220) -/

/-- A well-formed action instruction completes with its action. -/
theorem exec_toInstr_of_wf {a : Action} {s : State} (h : a.wf s.params.speedSet = true) :
    exec a.toInstr s = .next (s.onRegs (doAction s.params a)) := by
  have hexec : exec a.toInstr s = runAction a s := by cases a <;> rfl
  exact hexec.trans (runAction_of_wf h)

/-- A key completes with the action that its cell's table entry decodes to. -/
theorem exec_keyInstr_of_decode {cell : Fin 16} {a : Action} {s : State}
    (h : decodeAction s.params.speedSet s.params.action[cell.val] = .ok a) :
    exec (keyInstr cell) s = .next (s.onRegs (doAction s.params a)) :=
  (exec_keyInstr cell s).trans (runActionWord_of_decode h)

/-- Settles O10: in a well-formed set the cell's word decodes to an action; the key and the action's instruction both
answer what that action does. -/
theorem keysExecuteTheirTableAction : Obligations.KeysExecuteTheirTableAction := by
  intro s hp k hk
  have hkey : k.1 = keyInstr k.2 := by
    revert k
    decide
  obtain ⟨a, ha⟩ := actionLegal_of_wf hp k.2
  exact ⟨a.toInstr, s.onRegs (doAction s.params a), decode_act_eq_ok_iff.mpr ⟨a, ha, rfl⟩,
    hkey ▸ exec_keyInstr_of_decode ha, exec_toInstr_of_wf (decodeAction_wf ha)⟩

/-! ## The frame of every instruction (R225) -/

/-- R222: the direct push needs both that no wind mode is active and that the interlock is open. -/
theorem pushAllowed_iff {r : Regs} : pushAllowed r = true ↔ r.cs.mode = .unset ∧ r.tripped = false := by
  simp [pushAllowed]

/-- R225: an action writes at most one of the speed, the mode and the threshold, and the motor command only together
with the speed. -/
theorem doAction_writes_one_field (p : Params) (a : Action) (r : Regs) :
    ((doAction p a r).cs.speed = r.cs.speed ∨
      ((doAction p a r).cs.mode = r.cs.mode ∧ (doAction p a r).cs.thr = r.cs.thr)) ∧
    ((doAction p a r).cs.mode = r.cs.mode ∨
      ((doAction p a r).cs.thr = r.cs.thr ∧ (doAction p a r).mot = r.mot)) ∧
    ((doAction p a r).cs.thr = r.cs.thr ∨ (doAction p a r).mot = r.mot) := by
  rw [doAction_cs, doAction_mot]
  cases a with
  | nop => exact ⟨.inl rfl, .inl rfl, .inl rfl⟩
  | setSpeed v => exact ⟨.inr ⟨rfl, rfl⟩, .inl rfl, .inl rfl⟩
  | setMode m => exact ⟨.inl rfl, .inr ⟨rfl, rfl⟩, .inl rfl⟩
  | setThr v => exact ⟨.inl rfl, .inl rfl, .inr rfl⟩

/-- R222: an action leaves the motor command as it was, or pushes the duty of the speed it stores. -/
theorem doAction_mot_kept_or_pushed {p : Params} {a : Action} (hw : a.wf p.speedSet = true) (r : Regs) :
    (doAction p a r).mot = r.mot ∨
      (r.cs.mode = .unset ∧ r.tripped = false ∧ (doAction p a r).mot.wr = true ∧
        (paramsWf p = true →
          (doAction p a r).mot.duty = dutyCode p (doAction p a r).cs.speed.toNat)) := by
  rw [doAction_cs, doAction_mot]
  cases a with
  | nop | setMode _ | setThr _ => exact .inl rfl
  | setSpeed v =>
    by_cases hpush : pushAllowed r = true
    · obtain ⟨hmode, hopen⟩ := pushAllowed_iff.mp hpush
      have hv : v.toNat ∈ p.speedSet := by simpa [Action.wf, legalSpeed] using hw
      simp only [if_pos hpush]
      exact .inr ⟨hmode, hopen, trivial, fun hp => by rw [pushOperand, speedOperand_toNat hp hv]⟩
    · exact .inl (if_neg hpush)

/-- Settles O12: an instruction that completes is one action, which leaves the other registers by its frame. -/
theorem instructionFrame : Obligations.InstructionFrame := by
  intro i s t h
  obtain ⟨a, hw, rfl⟩ := exec_next h
  obtain ⟨hspeed, hmode, hthr⟩ := doAction_writes_one_field s.params a s.regs
  exact ⟨rfl, rfl, rfl, doAction_now _ _ _, doAction_kp _ _ _, doAction_bg _ _ _, doAction_tripped _ _ _,
    doAction_sn _ _ _, doAction_cap _ _ _, doAction_out _ _ _, doAction_en _ _ _, doAction_disp _ _ _,
    by simp, by simp, by simp, hspeed, hmode, hthr, doAction_mot_kept_or_pushed hw s.regs⟩

/-! ## What each action writes (R221 to R224) -/

/-- Settles O6: `NOP`, "no key" and a cell with the word 0x000 all run the action `nop`. -/
theorem nopWritesNothing : Obligations.NopWritesNothing := by
  intro s
  have hdec : decodeAction s.params.speedSet 0x000 = .ok .nop := rfl
  exact ⟨exec_toInstr_of_wf (a := .nop) rfl, runActionWord_of_decode hdec,
    fun cell hcell => exec_keyInstr_of_decode (a := .nop) (hcell ▸ hdec)⟩

/-- R222, in the registers: the speed, and the duty where the push is allowed. -/
theorem doSetSpeed_eq (ps : Params) (p : Byte) (r : Regs) :
    doSetSpeed ps p r =
      { r with
        cs := { r.cs with speed := p.extractLsb' 0 7 }
        fg := { r.fg with state := .check }
        mot := if r.cs.mode = .unset ∧ r.tripped = false
          then { duty := dutyCode ps p.toNat, wr := true } else r.mot } := by
  simp only [doSetSpeed, speedOperand_eq, pushAllowed_iff]
  split <;> rfl

/-- Settles O7: a percent of the set is a well-formed `SET_SPEED`. -/
theorem setSpeedStoresAndPushes : Obligations.SetSpeedStoresAndPushes := by
  intro s p hp
  have hwf : (Action.setSpeed p).wf s.params.speedSet = true := by simpa [Action.wf, legalSpeed] using hp
  calc exec (.setSpeed p) s
      = .next (s.onRegs (doSetSpeed s.params p)) := exec_toInstr_of_wf hwf
    _ = _ := by rw [State.onRegs, doSetSpeed_eq]

/-- Settles O8: every mode is legal, and the action is the one write of it. -/
theorem setModeWritesTheMode : Obligations.SetModeWritesTheMode :=
  fun _ m => exec_toInstr_of_wf (a := .setMode m) rfl

/-- Settles O9: every threshold is legal, and the action is the one write of it. -/
theorem setThrWritesTheThreshold : Obligations.SetThrWritesTheThreshold :=
  fun _ v => exec_toInstr_of_wf (a := .setThr v) rfl

/-! ## The step of a dispatch (R220, R8) -/

/-- R220: the dispatch of a keycode that the decoder accepts is the meaning of its instruction. -/
theorem fgStep_of_decoded {s : State} {i : Instr} (hs : s.regs.fg.state = .dispatch)
    (h : decodeKeycode s.regs.kp.res = .ok i) : fgStep s = exec i s := by
  rw [fgStep_dispatch hs, fgDispatch, fetchInstr, h]

/-- Settles O13: clearing the strobes changes neither FG's state nor `KP.res`, so FG's step of the cycle is the
instruction's meaning, and the step ends as it does. -/
theorem stepRunsTheDecodedInstruction : Obligations.StepRunsTheDecodedInstruction := by
  intro s i hs hd hi
  have hfg : fgStep s.startCycle = exec i s.startCycle := fgStep_of_decoded (s := s.startCycle) hd hi
  refine ⟨(wf_and_encode_of_decode hi).1, ?_⟩
  cases hexec : exec i s.startCycle with
  | next sF => exact (step_of_ready hs).trans (cycle_of_fgStep (hfg.trans hexec))
  | fault f => exact absurd hexec (exec_ne_fault i _ f)
  | refused e => exact step_of_fgStep_refused hs (hfg.trans hexec)

end Sys2Proof.Machine
end

section
/-! The wind engine cycle by cycle (spec/43_wind_engine.md R240 to R251, R256): the loads of its holds, what a cycle
in each of its states does, and when the stored reading changes. -/

namespace Sys2Proof.Machine

/-! ## Loads of the holds (R48, R251) -/

/-- R48: a hold of `D` cycles is entered with `D - 1`. -/
theorem timerLoad_eq_sub_one {p : Params} (hp : paramsWf p = true) {d : Nat} (hm : d ∈ timerHolds p) :
    (timerLoad d).toNat = d - 1 :=
  timerLoad_toNat (hold_bounds_of_wf hp hm).2

@[simp] theorem dwellLength_natural (p : Params) : dwellLength p .natural = p.dwellNatural := rfl

@[simp] theorem dwellLength_sleep (p : Params) : dwellLength p .sleep = p.dwellSleep := rfl

theorem dwellLength_mem_timerHolds (p : Params) (m : Mode) : dwellLength p m ∈ timerHolds p := by
  unfold dwellLength
  split <;> simp [timerHolds]

/-- R251: a dwell of `DW(m)` cycles is entered with `DW(m) - 1`. -/
theorem dwellLoad_eq_sub_one {p : Params} (hp : paramsWf p = true) {n : Nat} {m : Mode}
    (hm : m = .natural ∨ m = .sleep) : (dwellLoad p n m).toNat = dwellLength p m - 1 := by
  rw [dwellLoad_eq hm]
  exact timerLoad_eq_sub_one hp (dwellLength_mem_timerHolds p m)

/-! ## The stored reading (R256) -/

/-- Settles O40: of the moves of `S_DEC`, the only state that writes the reading, two write the status alone and
the third reports success. -/
theorem readingChangesOnlyOnSuccess : Obligations.ReadingChangesOnlyOnSuccess := by
  intro s t hr h hne
  obtain ⟨_, _, _, hB, ht⟩ := step_moves h hr
  rw [ht, mergeRegs_sn] at hne ⊢
  have hs : s.regs.bg.state = .dec := by
    by_contra hs
    exact hne (hB.sn_frame hs)
  refine ⟨hs, ?_⟩
  cases hB with
  | store => exact .inl rfl
  | badCount | badChecksum => exact .inr rfl
  | _ h => simp [hs] at h

/-! ## The start of an iteration (R240) -/

/-- Settles O44: the one move of `B_START`. -/
theorem iterationStartLatches : Obligations.IterationStartLatches := by
  intro s t hr h hs
  obtain ⟨_, _, _, hB, ht⟩ := step_moves h hr
  rw [ht]
  cases hB with
  | latch => exact ⟨rfl, rfl, rfl, rfl⟩
  | _ h => simp [hs] at h

/-! ## The interlock check and the cool-down (R242 to R245) -/

theorem tripNow_iff {r : Regs} :
    tripNow r = true ↔
      r.sn.rdValid = false ∨ 10 * r.sn.rdTi.toNat + r.sn.rdTd.toNat ≥ 10 * r.cs.thr.toNat :=
  decide_eq_true_iff

/-- Settles O45: the check decides between the two moves of `B_INTERLOCK`. -/
theorem interlockTripsOrPasses : Obligations.InterlockTripsOrPasses := by
  intro s t hr h hs
  obtain ⟨hp, _⟩ := step_cases h
  have hload := timerLoad_eq_sub_one hp (d := s.params.cooldown) (by simp [timerHolds])
  have hcheck : tripNow s.regs.clearStrobes = true ↔ s.regs.sn.rdValid = false ∨
      10 * s.regs.sn.rdTi.toNat + s.regs.sn.rdTd.toNat ≥ 10 * s.regs.cs.thr.toNat := tripNow_iff
  obtain ⟨_, _, _, hB, ht⟩ := step_moves h hr
  obtain ⟨hmd, hspd⟩ := hB.latched_frame (by simp [hs])
  rw [ht]
  refine ⟨hB.sn_frame (by simp [hs]), hmd, hspd, ?_⟩
  cases hB with
  | trip _ htrip =>
    rw [if_pos (hcheck.mp htrip)]
    exact ⟨by simp [interlockTrip], rfl, rfl, rfl, hload⟩
  | pass _ hpass =>
    rw [if_neg (mt hcheck.mpr (ne_true_of_eq_false hpass))]
    exact ⟨rfl, rfl, rfl, rfl⟩
  | _ h => simp [hs] at h

/-- Settles O46: the timer decides between the two moves of `B_COOL`. -/
theorem coolDownCountsDown : Obligations.CoolDownCountsDown := by
  intro s t hr h hs
  obtain ⟨_, _, _, hB, ht⟩ := step_moves h hr
  rw [ht]
  cases hB with
  | coolOver _ h0 => exact ⟨rfl, (if_pos h0).symm⟩
  | tick _ h0 => exact ⟨rfl, (if_neg h0).symm⟩
  | _ h => simp [hs] at h

/-! ## The pattern step (R246, R247, R251) -/

/-- Settles O47: the mode check, then the latched mode, decide between the moves of `B_PATTERN`. -/
theorem patternStep : Obligations.PatternStep := by
  intro s t hr h hs
  obtain ⟨hp, _⟩ := step_cases h
  obtain ⟨_, _, _, hB, ht⟩ := step_moves h hr
  rw [ht]
  cases hB with
  | abort _ hm =>
    have hm' : s.regs.cs.mode ≠ s.regs.bg.md := hm
    rw [if_pos hm']
    exact ⟨rfl, rfl, rfl, rfl, rfl, rfl⟩
  | showOnly _ hm hmd =>
    have hm' : s.regs.cs.mode = s.regs.bg.md := hm
    have hmd' : s.regs.bg.md = .unset := hmd
    rw [if_neg (not_not.mpr hm'), hmd']
    exact ⟨hmd, rfl, rfl, rfl, rfl, rfl⟩
  | driveOnce _ hm hmd =>
    have hm' : s.regs.cs.mode = s.regs.bg.md := hm
    have hmd' : s.regs.bg.md = .normal := hmd
    rw [if_neg (not_not.mpr hm'), hmd']
    exact ⟨hmd, rfl, rfl, rfl, rfl, rfl, rfl⟩
  | driveDwell _ hm hmd =>
    have hm' : s.regs.cs.mode = s.regs.bg.md := hm
    have hmd' : s.regs.bg.md = .natural ∨ s.regs.bg.md = .sleep := hmd
    have hload := dwellLoad_eq_sub_one hp (n := s.envCycle) hmd'
    rw [if_neg (not_not.mpr hm')]
    refine ⟨rfl, rfl, rfl, rfl, ?_⟩
    obtain hmd' | hmd' := hmd' <;> rw [hmd'] at hload ⊢ <;>
      exact ⟨rfl, rfl, by simpa [hmd'] using hload⟩
  | _ h => simp [hs] at h

/-! ## The dwells and the OFF step (R248 to R251) -/

/-- R248: the ON dwell ends at a mode change, else at timer 0. -/
theorem step_of_dwellOn {s t : State} (h : step s = .next t) (hr : s.input.rst = false)
    (hs : s.regs.bg.state = .dwellOn) :
    t.regs.bg = if s.regs.cs.mode ≠ s.regs.bg.md then { s.regs.bg with state := .start }
      else if s.regs.bg.tmr = 0 then { s.regs.bg with state := .off }
      else { s.regs.bg with tmr := s.regs.bg.tmr - 1 } := by
  obtain ⟨_, _, _, ht, _⟩ := step_regs h hr
  rw [ht, mergeRegs_bg, bgStep_dwellOn (s := s.startCycle) hs, engineDwellOn]
  simp only [modeChanged_iff, timerDone_iff, apply_ite Regs.bg]
  rfl

/-- R250: the OFF dwell ends the iteration at a mode change or at timer 0. -/
theorem step_of_dwellOff {s t : State} (h : step s = .next t) (hr : s.input.rst = false)
    (hs : s.regs.bg.state = .dwellOff) :
    t.regs.bg = if s.regs.cs.mode ≠ s.regs.bg.md then { s.regs.bg with state := .start }
      else if s.regs.bg.tmr = 0 then { s.regs.bg with state := .start }
      else { s.regs.bg with tmr := s.regs.bg.tmr - 1 } := by
  obtain ⟨_, _, _, ht, _⟩ := step_regs h hr
  rw [ht, mergeRegs_bg, bgStep_dwellOff (s := s.startCycle) hs, engineDwellOff]
  simp only [modeChanged_iff, timerDone_iff, apply_ite Regs.bg]
  rfl

/-- R249: the OFF step with the mode unchanged writes duty 0 and starts the OFF dwell. -/
theorem step_of_stop {s t : State} (h : step s = .next t) (hr : s.input.rst = false)
    (hs : s.regs.bg.state = .off) (hm : s.regs.cs.mode = s.regs.bg.md)
    (hmd : s.regs.bg.md = .natural ∨ s.regs.bg.md = .sleep) :
    t.regs.mot = { duty := 0, wr := true } ∧ t.regs.disp = shown s.regs false ∧
      t.regs.bg.state = .dwellOff ∧ t.regs.bg.tmr.toNat = dwellLength s.params s.regs.bg.md - 1 := by
  obtain ⟨hp, _⟩ := step_cases h
  have hload := dwellLoad_eq_sub_one hp (n := s.envCycle) hmd
  obtain ⟨_, _, _, hB, ht⟩ := step_moves h hr
  rw [ht]
  cases hB with
  | stop => exact ⟨by simp, rfl, rfl, hload⟩
  | abort _ hne => exact absurd hm hne
  | _ h => simp [hs] at h

/-- R249, R251: the OFF step with the mode changed goes back to `B_START` and shows nothing. -/
theorem step_of_off_abort {s t : State} (h : step s = .next t) (hr : s.input.rst = false)
    (hs : s.regs.bg.state = .off) (hm : s.regs.cs.mode ≠ s.regs.bg.md) :
    t.regs.bg.state = .start ∧ t.regs.bg.tmr = s.regs.bg.tmr ∧
      t.regs.disp = { s.regs.disp with wr := false } := by
  obtain ⟨_, _, _, ht, _⟩ := step_regs h hr
  rw [ht, bgStep_of_modeChanged (s := s.startCycle) (by simp [modeCheckStates, hs]) hm]
  exact ⟨rfl, rfl, rfl⟩

/-- Settles O48: the three states one by one; the latched mode stays in the OFF step. -/
theorem dwellsAndOffStep : Obligations.DwellsAndOffStep := by
  intro s t hr h hmode
  refine ⟨step_of_dwellOn h hr, fun hs => ?_, step_of_dwellOff h hr⟩
  obtain ⟨hlatched, _⟩ := backgroundRegistersChangeOnlyInTheirStates s t hr h
  obtain ⟨hmd, hspd⟩ := hlatched (by simp [hs])
  refine ⟨hmd, hspd, ?_⟩
  split
  · next hm => exact step_of_off_abort h hr hs hm
  · next hm => exact step_of_stop h hr hs (not_not.mp hm) (hmode (by simp [hs]))

end Sys2Proof.Machine
end

section
/-! Runs of the wind engine (spec/43_wind_engine.md R252 to R257): the interlock's hold on the motor after a trip, the
ON step of Natural and Sleep, and the end of every iteration. -/

namespace Sys2Proof.Machine

/-! ## Runs through states with a property -/

/-- The registers have the property `G` at the start of each of the next `n` cycles. -/
def Throughout (G : Regs → Prop) (n : Nat) (s : State) : Prop :=
  ∀ k u, k < n → run k s = .next u → G u.regs

theorem Throughout.head {G : Regs → Prop} {n : Nat} {s : State} (h : Throughout G (n + 1) s) : G s.regs :=
  h 0 s (Nat.succ_pos n) rfl

theorem Throughout.tail {G : Regs → Prop} {n : Nat} {s t : State} (h : Throughout G (n + 1) s)
    (ht : step s = .next t) : Throughout G n t :=
  fun k u hk hu => h (k + 1) u (Nat.succ_lt_succ hk) ((run_succ ht).trans hu)

theorem Throughout.mono {G : Regs → Prop} {m n : Nat} {s : State} (h : Throughout G n s) (hle : m ≤ n) :
    Throughout G m s :=
  fun k u hk => h k u (hk.trans_le hle)

/-- What a cycle under the condition `G` counts down by one, `n` quiet cycles under `G` count down by `n`. -/
theorem run_counts_down {G : Regs → Prop} {I : Nat → Regs → Prop}
    (hstep : ∀ k s t, step s = .next t → s.input.rst = false → G s.regs → I (k + 1) s.regs → I k t.regs)
    {k n : Nat} {s t : State} (h : run n s = .next t) (hq : QuietFor s n) (hG : Throughout G n s)
    (hs : I (k + n) s.regs) : I k t.regs := by
  induction n generalizing s with
  | zero =>
    cases h
    exact hs
  | succ n ih =>
    obtain ⟨u, hu, h⟩ := run_succ_next.mp h
    exact ih h (hq.tail (step_env hu).2.1) (hG.tail hu) (hstep (k + n) s u hu hq.input hG.head hs)

/-! ## The interlock holds the motor (R254) -/

/-- Settles O52: the reset state has duty 0, and a cycle's merge lets neither agent drive a tripped motor. -/
theorem interlockHoldsTheMotor : Obligations.InterlockHoldsTheMotor := by
  intro s t h hheld
  obtain ht | ⟨_, _, hF, hB, ht⟩ := step_reset_or_moves h <;> rw [ht]
  · simp [InterlockHeld, resetRegs]
  · exact interlockHeld_merge hF hB hheld

/-- R254: from a tripped interlock BG writes no duty but 0: the states that drive the motor have it open. -/
theorem BgMove.duty_of_tripped_before {p : Params} {i : Input} {n : Nat} {r r' : Regs} (h : BgMove p i n r r')
    (hr : InterlockHeld r) (ht : r.tripped = true) : r'.mot.duty = 0 := by
  obtain ⟨hzero, _, hopen⟩ := hr
  cases h with
  | trip | stop => simp [interlockTrip]
  | driveOnce hs | driveDwell hs => cases (hopen (.inl hs)).symm.trans ht
  | _ => exact hzero ht

/-- R254: a cycle that begins with the interlock tripped ends with duty 0, also where its check passes. -/
theorem step_duty_of_tripped {s t : State} (h : step s = .next t) (hr : s.input.rst = false)
    (hheld : InterlockHeld s.regs) (htrip : s.regs.tripped = true) : t.regs.mot.duty = 0 := by
  obtain ⟨_, _, hF, hB, ht⟩ := step_moves h hr
  rw [ht, mergeRegs_mot]
  split
  · exact hB.duty_of_tripped_before hheld htrip
  · obtain ⟨hzero, _⟩ := hheld
    rw [hF.mot_of_tripped htrip]
    exact hzero htrip

/-- R43: the interlock stays tripped until a check passes. -/
theorem run_tripped {n : Nat} {s t : State} (h : run n s = .next t) (hq : QuietFor s n)
    (hpass : Throughout (passesAt · = false) n s) (htrip : s.regs.tripped = true) : t.regs.tripped = true := by
  refine run_counts_down (I := fun _ r => r.tripped = true) (k := 0) (fun _ u v hv hr hu htu => ?_) h hq hpass htrip
  rw [interlockFlagChangesOnlyAtTheCheck u v hr hv, hu, htu]
  simp

/-- The fewest cycles that BG takes to its next interlock check: the rest of a cool-down, then `B_START` and a
rate-limited measurement (R171, R240, R245); from a pattern step or a dwell, an abort to `B_START`. -/
def cyclesToCheck (r : Regs) : Nat :=
  match r.bg.state with
  | .interlock => 0
  | .rate | .high | .low | .cap | .dec => 1
  | .start => 2
  | .pattern | .dwellOn | .off | .dwellOff => 3
  | .cool => r.bg.tmr.toNat + 3

/-- A cycle brings the next interlock check nearer by at most one cycle. -/
theorem BgMove.cyclesToCheck_le {p : Params} {i : Input} {n : Nat} {r r' : Regs} (h : BgMove p i n r r') :
    cyclesToCheck r ≤ cyclesToCheck r' + 1 := by
  cases h with
  | tick hs ht =>
    have hcount := toNat_sub_one ht
    simp only [List.mem_cons, List.not_mem_nil, or_false] at hs
    obtain hs | hs | hs | hs | hs := hs <;> simp only [cyclesToCheck, Regs.tickTimer_bg, hs] <;> omega
  | abort hs =>
    simp only [List.mem_cons, List.not_mem_nil, or_false] at hs
    obtain hs | hs | hs | hs := hs <;> simp [cyclesToCheck, hs]
  | coolOver hs ht => simp [cyclesToCheck, hs, ht]
  | _ hs => simp [cyclesToCheck, hs, engineStart, requestStart, captureStart, captureRecord, captureOverrun]

theorem run_cyclesToCheck {n d : Nat} {s t : State} (h : run n s = .next t) (hq : QuietFor s n)
    (hd : d + n ≤ cyclesToCheck s.regs) : d ≤ cyclesToCheck t.regs := by
  refine run_counts_down (G := fun _ => True) (I := fun k r => k ≤ cyclesToCheck r) (fun k u v hv hr _ hk => ?_) h hq
    (fun _ _ _ _ => trivial) hd
  obtain ⟨_, rB, _, hB, ht⟩ := step_moves hv hr
  have hle : cyclesToCheck u.regs ≤ cyclesToCheck rB + 1 := hB.cyclesToCheck_le
  rw [ht]
  exact Nat.le_of_add_le_add_right (hk.trans hle)

/-- R243: a trip's cycle leaves the interlock tripped and the whole cool-down to come. -/
theorem step_of_trip {s t : State} (h : step s = .next t) (hr : s.input.rst = false) (htrip : tripsAt s.regs = true) :
    t.regs.tripped = true ∧ cyclesToCheck t.regs = s.params.cooldown - 1 + 3 := by
  simp only [tripsAt, Bool.and_eq_true, decide_eq_true_eq] at htrip
  obtain ⟨hs, hnow⟩ := htrip
  obtain ⟨_, _, _, hcheck⟩ := interlockTripsOrPasses s t hr h hs
  rw [if_pos (tripNow_iff.mp hnow)] at hcheck
  obtain ⟨_, htr, _, hcool, htmr⟩ := hcheck
  exact ⟨htr, by simp only [cyclesToCheck, hcool, htmr]⟩

/-- Settles O53: after the trip's cycle, to `u`, the interlock stays tripped until a check passes, and no check comes
before the cool-down, `B_START` and `S_RATE` are over. -/
theorem tripHoldsThroughTheCoolDown : Obligations.TripHoldsThroughTheCoolDown := by
  intro s hinv htrip
  obtain ⟨u, hu, huinv⟩ := everyStepKeepsTheInvariant s hinv
  obtain ⟨hpos, _⟩ := hold_bounds_of_wf hinv.params (d := s.params.cooldown) (by simp [timerHolds])
  refine ⟨fun j hj hq hpass => ?_, fun j hj hlt hq => ?_⟩ <;> obtain ⟨n, rfl⟩ := Nat.exists_eq_add_of_le' hj
  · obtain ⟨hutrip, _⟩ := step_of_trip hu hq.input htrip
    obtain ⟨t, ht, htinv⟩ := run_blockInv n huinv
    have hrun : run (n + 1) s = .next t := (run_succ hu).trans ht
    have hnopass : Throughout (passesAt · = false) n u := fun k v hk hv =>
      hpass (k + 1) v (by omega) (by omega) ((run_succ hu).trans hv)
    have httrip := run_tripped ht (hq.tail (step_env hu).2.1) hnopass hutrip
    obtain ⟨hzero, _⟩ := htinv.interlock
    refine ⟨t, hrun, hzero httrip, httrip, fun hq' => ?_⟩
    obtain ⟨v, hv, _⟩ := everyStepKeepsTheInvariant t htinv
    exact ⟨v, run_add_next.mpr ⟨t, hrun, run_succ hv⟩,
      step_duty_of_tripped hv (hq'.after_run hrun).input htinv.interlock httrip⟩
  · obtain ⟨_, hfar⟩ := step_of_trip hu hq.input htrip
    obtain ⟨t, ht, _⟩ := run_blockInv n huinv
    have hnear : 1 ≤ cyclesToCheck t.regs := run_cyclesToCheck ht (hq.tail (step_env hu).2.1) (by omega)
    refine ⟨t, (run_succ hu).trans ht, fun hs => ?_⟩
    simp [cyclesToCheck, hs] at hnear

/-! ## The ON step (R252) -/

/-- The ON step of mode `m`, with duty `v` on the motor and `k` cycles of its dwell to come: `B_DWELL_ON`, or
`B_OFF` after the dwell. -/
def OnStep (v : Duty) (m : Mode) (k : Nat) (r : Regs) : Prop :=
  r.mot.duty = v ∧ r.bg.md = m ∧
    ((r.bg.state = .dwellOn ∧ r.bg.tmr.toNat + 1 = k) ∨ (r.bg.state = .off ∧ k = 0))

/-- R222: while a wind mode is active FG does not write the motor command. -/
theorem FgMove.mot_of_windMode {p : Params} {i : Input} {r r' : Regs} {c : Option Action} (h : FgMove p i r c r')
    (hm : r.cs.mode ≠ .unset) : r'.mot = r.mot := by
  cases h with
  | act a =>
    cases a with
    | setSpeed v => simp [pushAllowed, hm]
    | nop | setMode m | setThr v => rfl
  | _ => rfl

/-- R246, R247: the pattern step of Natural and Sleep puts the latched speed's duty on the motor and begins the
dwell. -/
theorem step_of_pattern_dwell {s t : State} (h : step s = .next t) (hr : s.input.rst = false)
    (hp : patternAt s.regs = true) (hmd : s.regs.bg.md = .natural ∨ s.regs.bg.md = .sleep) :
    OnStep (dutyCode s.params s.regs.bg.spd.toNat) s.regs.bg.md (dwellLength s.params s.regs.bg.md) t.regs := by
  simp only [patternAt, Bool.and_eq_true, decide_eq_true_eq] at hp
  obtain ⟨hs, hm⟩ := hp
  obtain ⟨hwf, _⟩ := step_cases h
  obtain ⟨hpos, _⟩ := hold_bounds_of_wf hwf (dwellLength_mem_timerHolds s.params s.regs.bg.md)
  obtain ⟨hmd', _, _, hstep⟩ := patternStep s t hr h hs
  rw [if_neg (not_not.mpr hm)] at hstep
  obtain ⟨_, hstep⟩ := hstep
  obtain e | e := hmd <;> simp only [e, dwellLength_natural, dwellLength_sleep] at hstep hmd' hpos ⊢ <;>
    obtain ⟨hmot, hon, htmr⟩ := hstep <;>
    exact ⟨by rw [hmot], hmd', .inl ⟨hon, by omega⟩⟩

/-- R248: while the mode is the latched one, a cycle of the ON dwell leaves the duty and counts down, or goes on to
`B_OFF`. -/
theorem OnStep.counts_down {v : Duty} {m : Mode} {k : Nat} {s t : State} (hon : OnStep v m (k + 1) s.regs)
    (h : step s = .next t) (hr : s.input.rst = false) (hm : s.regs.cs.mode = m) (hwind : m ≠ .unset) :
    OnStep v m k t.regs := by
  obtain ⟨hduty, hmd, ⟨hs, hk⟩ | ⟨_, hk⟩⟩ := hon
  · obtain ⟨_, _, hF, hB, ht⟩ := step_moves h hr
    have hmot := hF.mot_of_windMode (hm ▸ hwind)
    have hmode : s.regs.cs.mode = s.regs.bg.md := hm.trans hmd.symm
    rw [ht]
    cases hB with
    | tick _ h0 =>
      have h0' : s.regs.bg.tmr ≠ 0 := h0
      have hcount : (s.regs.bg.tmr - 1).toNat + 1 = k := by bv_omega
      exact ⟨by simp [hmot, hduty], hmd, .inl ⟨hs, hcount⟩⟩
    | onOver _ _ h0 =>
      have hk0 : s.regs.bg.tmr.toNat = 0 := congrArg BitVec.toNat h0
      exact ⟨by simp [hmot, hduty], hmd, .inr ⟨rfl, by omega⟩⟩
    | abort _ hne => exact absurd hmode hne
    | _ h => simp [hs] at h
  · cases hk

/-- R248: with the mode unchanged, `n` cycles of an ON step leave `k - n` of its `k` cycles to come. -/
theorem run_onStep {v : Duty} {m : Mode} {k n : Nat} {s : State} (hinv : BlockInv s) (hon : OnStep v m k s.regs)
    (hq : QuietFor s k) (hm : Throughout (·.cs.mode = m) k s) (hwind : m ≠ .unset) (hn : n ≤ k) :
    ∃ t, run n s = .next t ∧ BlockInv t ∧ OnStep v m (k - n) t.regs := by
  obtain ⟨t, ht, htinv⟩ := run_blockInv n hinv
  rw [← Nat.sub_add_cancel hn] at hon
  exact ⟨t, ht, htinv, run_counts_down (fun _ _ _ hv hr hG hk => hk.counts_down hv hr hG hwind) ht (hq.mono hn)
    (hm.mono hn) hon⟩

/-- R249: at the end of an ON step, with the mode unchanged, the OFF step takes the duty to 0. -/
theorem OnStep.step_of_over {v : Duty} {m : Mode} {s t : State} (hon : OnStep v m 0 s.regs)
    (h : step s = .next t) (hr : s.input.rst = false) (hm : s.regs.cs.mode = m) (hmd : m = .natural ∨ m = .sleep) :
    t.regs.mot.duty = 0 ∧ t.regs.bg.state = .dwellOff := by
  obtain ⟨_, rfl, ⟨_, hk⟩ | ⟨hs, _⟩⟩ := hon
  · cases hk
  · obtain ⟨hmot, _, hoff, _⟩ := step_of_stop h hr hs hm hmd
    exact ⟨by rw [hmot], hoff⟩

/-- Settles O50: the pattern step to `u` begins the ON step, which keeps its duty to `B_OFF` in `t`, and the OFF
step to `w` follows. -/
theorem onStepLastsTheDwell : Obligations.OnStepLastsTheDwell := by
  intro s hinv hpat hmd hq hmode
  obtain ⟨u, hu, huinv⟩ := everyStepKeepsTheInvariant s hinv
  have huq := hq.tail (step_env hu).2.1
  have hon := step_of_pattern_dwell hu hq.input hpat hmd
  have hwind : s.regs.bg.md ≠ .unset := by obtain e | e := hmd <;> simp [e]
  have humode : Throughout (·.cs.mode = s.regs.bg.md) (dwellLength s.params s.regs.bg.md + 1) u :=
    fun k v hk hv => hmode (k + 1) v (by omega) ((run_succ hu).trans hv)
  have hrun {n : Nat} := run_onStep (n := n) huinv hon (huq.mono (Nat.le_succ _)) (humode.mono (Nat.le_succ _)) hwind
  refine ⟨fun j hj hle => ?_, ?_⟩
  · obtain ⟨n, rfl⟩ := Nat.exists_eq_add_of_le' hj
    obtain ⟨t, ht, _, hduty, _⟩ := hrun (Nat.le_of_succ_le_succ hle)
    exact ⟨t, (run_succ hu).trans ht, hduty⟩
  · obtain ⟨t, ht, htinv, hover⟩ := hrun (Nat.le_refl _)
    rw [Nat.sub_self] at hover
    obtain ⟨w, hw, _⟩ := everyStepKeepsTheInvariant t htinv
    have htmode := humode _ t (Nat.lt_succ_self _) ht
    exact ⟨w, (run_succ hu).trans (run_add_next.mpr ⟨t, ht, run_succ hw⟩),
      hover.step_of_over hw (huq.after_run ht).input htmode hmd⟩

/-! ## The end of an iteration (R257) -/

/-- The longest path from a pattern step to `B_START`: both dwells, the pattern step and the OFF step. -/
def patternBudget (p : Params) : Nat := 2 + 2 * max p.dwellNatural p.dwellSleep

/-- The most cycles from the interlock check to `B_START`, with the check's own. -/
def checkBudget (p : Params) : Nat := 1 + max p.cooldown (patternBudget p)

/-- The most cycles that BG takes to `B_START`, 0 if it is there (R257): those of the present state, then the longest
path after it. -/
def iterationBudget (p : Params) (r : Regs) : Nat :=
  match r.bg.state with
  | .start => 0
  | .rate => 1 + p.startHigh + p.reqLow + (p.expected + 1) * p.maxUnchanged + 1 + checkBudget p
  | .high => r.bg.tmr.toNat + 1 + p.reqLow + (p.expected + 1) * p.maxUnchanged + 1 + checkBudget p
  | .low => r.bg.tmr.toNat + 1 + (p.expected + 1) * p.maxUnchanged + 1 + checkBudget p
  | .cap => captureBudget p r + 1 + checkBudget p
  | .dec => 1 + checkBudget p
  | .interlock => checkBudget p
  | .cool => r.bg.tmr.toNat + 1
  | .pattern => patternBudget p
  | .dwellOn => r.bg.tmr.toNat + 1 + 1 + max p.dwellNatural p.dwellSleep
  | .off => 1 + max p.dwellNatural p.dwellSleep
  | .dwellOff => r.bg.tmr.toNat + 1

/-- Outside `B_START` there is always a cycle to go. -/
theorem iterationBudget_pos (p : Params) {r : Regs} (hs : r.bg.state ≠ .start) : 0 < iterationBudget p r := by
  cases hb : r.bg.state with
  | start => exact absurd hb hs
  | _ =>
    simp only [iterationBudget, hb, checkBudget, patternBudget]
    omega

theorem dwellLength_le (p : Params) (m : Mode) : dwellLength p m ≤ max p.dwellNatural p.dwellSleep := by
  unfold dwellLength
  split <;> omega

theorem captureBudget_captureStart (p : Params) (r : Regs) :
    captureBudget p (captureStart r) = (p.expected + 1) * p.maxUnchanged := by
  simp [captureBudget, captureStart, Nat.add_one_mul]

/-- R185: a cycle of a capture uses up some of the iteration's budget. -/
theorem BgMove.iterationBudget_lt_of_cap {p : Params} {i : Input} {n : Nat} {r r' : Regs} (h : BgMove p i n r r')
    (hp : paramsWf p = true) (hc : CaptureSound p r) (hs : r.bg.state = .cap) :
    iterationBudget p r' < iterationBudget p r := by
  obtain ⟨_, _, hunch, _⟩ := hc hs
  have hpos : 0 < captureBudget p r := by
    unfold captureBudget
    omega
  obtain hdec | ⟨hcap, hlt⟩ := h.captureBudget_lt hp hs hc
  · simp only [iterationBudget, hdec, hs]
    omega
  · simp only [iterationBudget, hcap, hs]
    omega

/-- R48: a cycle of a hold uses up some of the iteration's budget. -/
theorem iterationBudget_tickTimer_lt (p : Params) {r : Regs}
    (hs : r.bg.state ∈ [BgState.high, .low, .cool, .dwellOn, .dwellOff]) (ht : r.bg.tmr ≠ 0) :
    iterationBudget p r.tickTimer < iterationBudget p r := by
  have hlt : (r.bg.tmr - 1).toNat < r.bg.tmr.toNat := by bv_omega
  simp only [List.mem_cons, List.not_mem_nil, or_false] at hs
  obtain hs | hs | hs | hs | hs := hs <;>
    simp only [iterationBudget, Regs.tickTimer_bg, hs] <;> omega

/-- Every cycle outside `B_START` uses up some of the iteration's budget: a hold is entered with its length less
one, and each branch to a shorter path leaves some over. -/
theorem BgMove.iterationBudget_lt {p : Params} {i : Input} {n : Nat} {r r' : Regs} (h : BgMove p i n r r')
    (hp : paramsWf p = true) (hd : DwellMode r) (hc : CaptureSound p r) (hs : r.bg.state ≠ .start) :
    iterationBudget p r' < iterationBudget p r := by
  by_cases hcap : r.bg.state = .cap
  · exact h.iterationBudget_lt_of_cap hp hc hcap
  have hpos := iterationBudget_pos p hs
  have hdwell := dwellLength_le p r.bg.md
  cases h with
  | latch h => exact absurd h hs
  | record h | overrun h | stall h | unchanged h => exact absurd h hcap
  | coolOver | abort | showOnly | driveOnce | offOver => exact hpos
  | tick h ht => exact iterationBudget_tickTimer_lt p h ht
  | request h =>
    have hload := timerLoad_lt hp (d := p.startHigh) (by simp [timerHolds])
    simp only [iterationBudget, h, requestStart, Regs.bgGoto_bg, Regs.setTimer_bg]
    omega
  | pullLow h =>
    have hload := timerLoad_lt hp (d := p.reqLow) (by simp [timerHolds])
    simp only [iterationBudget, h, Regs.bgGoto_bg, Regs.setTimer_bg]
    omega
  | release h =>
    have hcapture : (captureStart r).bg.state = .cap := rfl
    simp only [iterationBudget, h, hcapture, captureBudget_captureStart]
    omega
  | trip h =>
    have hload := timerLoad_lt hp (d := p.cooldown) (by simp [timerHolds])
    simp only [iterationBudget, h, interlockTrip, Regs.bgGoto_bg, Regs.setTimer_bg, checkBudget]
    omega
  | driveDwell h _ hmd =>
    have hload := dwellLoad_lt hp (n := n) hmd
    simp only [iterationBudget, h, Regs.bgGoto_bg, Regs.setTimer_bg, patternBudget]
    omega
  | stop h =>
    have hload := dwellLoad_lt hp (n := n) (hd (by simp [h]))
    simp only [iterationBudget, h, Regs.bgGoto_bg, Regs.setTimer_bg]
    omega
  | cached h | badCount h | store h | badChecksum h | pass h | onOver h =>
    simp only [iterationBudget, h, Regs.bgGoto_bg, checkBudget]
    omega

theorem step_iterationBudget_lt {s t : State} (h : step s = .next t) (hr : s.input.rst = false)
    (hinv : BlockInv s) (hs : s.regs.bg.state ≠ .start) :
    iterationBudget t.params t.regs < iterationBudget s.params s.regs := by
  obtain ⟨_, _, _, hB, ht⟩ := step_moves h hr
  rw [(step_env h).1, ht]
  exact hB.iterationBudget_lt hinv.params hinv.dwell hinv.capture hs

/-- R257, for an iteration in progress: BG is in `B_START` within its budget. -/
theorem start_within_budget {b : Nat} {s : State} (hinv : BlockInv s)
    (hb : iterationBudget s.params s.regs ≤ b) (hq : QuietFor s b) :
    ∃ n t, n ≤ b ∧ run n s = .next t ∧ t.regs.bg.state = .start := by
  induction b generalizing s with
  | zero =>
    refine ⟨0, s, Nat.le_refl 0, rfl, ?_⟩
    by_contra hs
    exact absurd hb (Nat.not_le_of_gt (iterationBudget_pos s.params hs))
  | succ b ih =>
    by_cases hs : s.regs.bg.state = .start
    · exact ⟨0, s, Nat.zero_le _, rfl, hs⟩
    · obtain ⟨u, hu, huinv⟩ := everyStepKeepsTheInvariant s hinv
      have hlt := step_iterationBudget_lt hu hq.input hinv hs
      obtain ⟨n, t, hn, ht, hstart⟩ := ih huinv (by omega) (hq.tail (step_env hu).2.1)
      exact ⟨n + 1, t, Nat.succ_le_succ hn, (run_succ hu).trans ht, hstart⟩

/-- Settles O54: the cycle of `B_START`, to `u`, then the budget of the iteration from `S_RATE`. -/
theorem everyIterationEnds : Obligations.EveryIterationEnds := by
  intro s hinv hs bound hq
  have hr : s.input.rst = false := (hq.mono (show 1 ≤ bound by omega)).input
  obtain ⟨u, hu, huinv⟩ := everyStepKeepsTheInvariant s hinv
  have hbound : bound = iterationBudget u.params u.regs + 1 := by
    obtain ⟨hbg, _⟩ := iterationStartLatches s u hr hu hs
    simp only [iterationBudget, checkBudget, patternBudget, hbg, (step_env hu).1, bound]
    omega
  rw [hbound] at hq ⊢
  obtain ⟨n, t, hn, ht, hstart⟩ := start_within_budget huinv (Nat.le_refl _) (hq.tail (step_env hu).2.1)
  exact ⟨n + 1, t, Nat.succ_pos n, Nat.succ_le_succ hn, (run_succ hu).trans ht, hstart⟩

end Sys2Proof.Machine
end

section
/-! The motor command and the display snapshot (spec/44_motor_display.md R280 to R289): the scaling of a percent, the
merge of the agents' duty writes, the refresh of the display and the layout of its word. -/

namespace Sys2Proof.Machine

/-! ## The scaling (R281) -/

/-- R281: `DUTY` is the nearest integer to `percent · full / 100`, in hundredths, and the even one at a tie. -/
theorem dutyNat_nearest (full percent : Nat) :
    2 * (100 * dutyNat full percent) ≤ 2 * (percent * full) + 100 ∧
      2 * (percent * full) ≤ 2 * (100 * dutyNat full percent) + 100 ∧
      ((2 * (100 * dutyNat full percent) = 2 * (percent * full) + 100 ∨
        2 * (percent * full) = 2 * (100 * dutyNat full percent) + 100) → dutyNat full percent % 2 = 0) := by
  unfold dutyNat
  generalize percent * full = n
  dsimp only
  split_ifs <;> omega

/-- No percent up to 100 is scaled above the full duty. -/
theorem dutyNat_le {full percent : Nat} (h : percent ≤ 100) : dutyNat full percent ≤ full := by
  obtain ⟨hup, _, htie⟩ := dutyNat_nearest full percent
  have hfull : percent * full ≤ 100 * full := Nat.mul_le_mul_right full h
  omega

/-- R281: the code of a percent up to 100 fits the duty register. -/
theorem dutyCode_toNat {p : Params} {percent : Nat} (hf : p.dutyFull ≤ 65535) (h : percent ≤ 100) :
    (dutyCode p percent).toNat = dutyNat p.dutyFull percent := by
  have hle := dutyNat_le (full := p.dutyFull) h
  rw [dutyCode, BitVec.toNat_ofNat, Nat.mod_eq_of_lt (by omega)]

/-- R281: the table of the default percents at the default scale. -/
theorem dutyCode_default {p : Params} (hf : p.dutyFull = 65535) :
    [0, 30, 60, 80, 100].map (dutyCode p) = [0, 19660, 39321, 52428, 65535] := by
  simp [dutyCode, dutyNat, hf]

/-- Settles O15: the code is the rounded quotient itself, and the table at the default scale is evaluated. -/
theorem dutyIsRoundedToNearestEven : Obligations.DutyIsRoundedToNearestEven := by
  refine ⟨fun p percent hf h => ?_, fun p hf => dutyCode_default hf⟩
  rw [dutyCode_toNat hf h]
  exact dutyNat_nearest p.dutyFull percent

/-! ## The motor command (R282 to R284, R289) -/

/-- R283: BG's motor command of a cycle, from the start-of-cycle registers, whose strobe is down. -/
theorem bgStep_startCycle_mot (s : State) : (bgStep s.startCycle).mot =
    if tripsAt s.regs then { duty := 0, wr := true }
    else if drivesAt s.regs then { duty := dutyCode s.params s.regs.bg.spd.toNat, wr := true }
    else if offAt s.regs then { duty := 0, wr := true }
    else { s.regs.mot with wr := false } :=
  bgStep_mot s.startCycle

/-- R282: BG's writers of the duty. -/
theorem bgStep_startCycle_wr (s : State) :
    (bgStep s.startCycle).mot.wr = true ↔
      tripsAt s.regs = true ∨ drivesAt s.regs = true ∨ offAt s.regs = true := by
  rw [bgStep_startCycle_mot]
  split_ifs <;> simp [*]

/-- Settles O16: the merge takes BG's command if one of BG's writers raised its strobe, else FG's. -/
theorem motorCommandOfACycle : Obligations.MotorCommandOfACycle := by
  intro s t hr h
  obtain ⟨sF, hF, _, ht, _⟩ := step_regs h hr
  rw [ht, mergeRegs_mot, bgStep_startCycle_mot]
  by_cases htrip : tripsAt s.regs = true
  · simp [htrip]
  by_cases hdrive : drivesAt s.regs = true
  · simp [htrip, hdrive]
  by_cases hoff : offAt s.regs = true
  · simp [htrip, hdrive, hoff]
  · simp only [htrip, hdrive, hoff, if_false, Bool.false_eq_true]
    exact fgStep_mot hF

/-- R222: FG pushes a duty only while no wind mode is active. -/
theorem mode_unset_of_push {s : State} (h : (pushedDuty s).isSome = true) : s.regs.cs.mode = .unset := by
  unfold pushedDuty at h
  split at h
  · split at h
    · next hpush => exact hpush.1
    · cases h
  all_goals cases h

/-- R284: with no wind mode active BG writes the duty only at a trip: a pattern step that drives and, from a latched
Natural or Sleep, an OFF step find the latched mode unchanged. -/
theorem tripsAt_of_write_in_unset {s : State} (hm : s.regs.cs.mode = .unset) (hd : DwellMode s.regs)
    (hwr : (bgStep s.startCycle).mot.wr = true) : tripsAt s.regs = true := by
  obtain htrip | hdrive | hoff := (bgStep_startCycle_wr s).mp hwr
  · exact htrip
  · simp only [drivesAt, patternAt, Bool.and_eq_true, decide_eq_true_eq] at hdrive
    obtain ⟨⟨_, hlatched⟩, hwind⟩ := hdrive
    exact absurd (hlatched.symm.trans hm) hwind
  · simp only [offAt, Bool.and_eq_true, decide_eq_true_eq] at hoff
    obtain ⟨hs, hlatched⟩ := hoff
    have hunset : s.regs.bg.md = .unset := hlatched.symm.trans hm
    have hdwell := hd (.inr (.inl hs))
    simp [hunset] at hdwell

/-- Settles O17: the push is of mode Unset, in which BG's only writer is the trip; its duty and its interlock flag
win the merge. -/
theorem dutyWritesCoincideOnlyAtATrip : Obligations.DutyWritesCoincideOnlyAtATrip := by
  intro s t hr hd h hpush hwr
  have hm := mode_unset_of_push hpush
  have htrip := tripsAt_of_write_in_unset hm hd hwr
  refine ⟨hm, htrip, ?_, ?_⟩
  · rw [motorCommandOfACycle s t hr h, if_pos htrip]
  · rw [interlockFlagChangesOnlyAtTheCheck s t hr h, if_pos htrip]

/-- R289: a reset keeps the duty legal, since 0 is a legal percent, and a cycle's merge keeps it legal. -/
theorem step_dutyLegal {s t : State} (h : step s = .next t) (hd : DutyLegal s.params s.regs) :
    DutyLegal t.params t.regs := by
  obtain ⟨hp, ⟨_, rfl⟩ | ⟨hr, hdom, _⟩⟩ := step_cases h
  · exact (blockInv_of_reset (s := resetCycle s) hp rfl).duty
  · obtain ⟨_, _, hF, hB, ht⟩ := step_moves h hr
    obtain ⟨_, hspd, _⟩ := (domainOk_iff s.params s.regs).mp hdom
    rw [(step_env h).1, ht]
    exact dutyLegal_merge hF hB hp hspd hd

/-- Settles O55: every step keeps the duty legal, and the legal codes of the default set are the table's. -/
theorem motorCarriesOnlyTheFiveCodes : Obligations.MotorCarriesOnlyTheFiveCodes := by
  refine ⟨fun s t => step_dutyLegal, fun p r hset hf => ?_⟩
  rw [DutyLegal, hset, dutyCode_default hf]

/-! ## The display (R286 to R288) -/

/-- Settles O18: the display is BG's alone, and clearing the strobes changes nothing that a refresh shows. -/
theorem displaySnapshotOfACycle : Obligations.DisplaySnapshotOfACycle := by
  intro s t hr h
  obtain ⟨_, _, _, ht, _⟩ := step_regs h hr
  rw [ht, mergeRegs_disp]
  exact bgStep_disp s.startCycle

/-- A bit of a word is its field of one bit. -/
theorem getLsbD_eq_iff_extractLsb' {w i : Nat} {x : BitVec w} {b : Bool} :
    x.getLsbD i = b ↔ x.extractLsb' i 1 = bit b := by
  constructor
  · rintro rfl
    ext j hj
    obtain rfl : j = 0 := by omega
    simp [bit]
  · intro h
    have hbit := congrArg (BitVec.getLsbD · 0) h
    simpa [bit, BitVec.getLsbD_extractLsb'] using hbit

/-- Settles O19: the fields above a field's bits do not reach into them, and the field is the topmost of the rest. -/
theorem displayWordLayout : Obligations.DisplayWordLayout := by
  intro d
  simp (disch := omega) only [dispWord, BitVec.extractLsb'_cast, getLsbD_eq_iff_extractLsb',
    BitVec.extractLsb'_append_eq_of_add_le, BitVec.extractLsb'_eq_self, and_true]
  refine ⟨?_, ?_, ?_, ?_, ?_, ?_, ?_, ?_, ?_⟩ <;> exact BitVec.extractLsb'_append_eq_left

end Sys2Proof.Machine
end

section
/-! When the model stops instead of stepping (spec/60_exceptions.md R303, R316). -/

namespace Sys2Proof.Machine

/-- R103: a keycode is legal exactly if it is none of 0x01 to 0x0F. -/
theorem keyLegal_iff (r : Regs) : KeyLegal r ↔ ¬ (1 ≤ r.kp.res.toNat ∧ r.kp.res.toNat ≤ 15) := by
  have legal_iff : ∀ k : KeyWord, k = 0 ∨ k.getLsbD 4 = true ↔ ¬ (1 ≤ k.toNat ∧ k.toNat ≤ 15) := by decide
  exact legal_iff r.kp.res

/-- An ordinary step completes exactly if it dispatches no reserved keycode. -/
theorem step_completes_iff_of_ready {s : State} (hs : Ready s) :
    (∃ t, step s = .next t) ↔ (s.regs.fg.state = .dispatch → KeyLegal s.regs) := by
  refine ⟨fun ⟨t, h⟩ hd => ?_, step_completes hs⟩
  rw [keyLegal_iff]
  rintro ⟨hlo, hhi⟩
  simp [reservedKeycodesNeverArise.2 s hs hd hlo hhi] at h

/-- A step completes exactly if the parameters are well formed and it is a reset or a completing ordinary step. -/
theorem step_completes_iff (s : State) :
    (∃ t, step s = .next t) ↔
      paramsWf s.params = true ∧ (s.input.rst = true ∨
        domainOk s.params s.regs = true ∧ (s.regs.fg.state = .dispatch → KeyLegal s.regs)) := by
  constructor
  · rintro ⟨t, h⟩
    obtain ⟨hp, ⟨hr, _⟩ | ⟨hr, hdom, _⟩⟩ := step_cases h
    · exact ⟨hp, .inl hr⟩
    · exact ⟨hp, .inr ⟨hdom, (step_completes_iff_of_ready ⟨hp, hr, hdom⟩).mp ⟨t, h⟩⟩⟩
  · rintro ⟨hp, hcase⟩
    cases hr : s.input.rst with
    | true => exact ⟨_, step_of_reset hp hr⟩
    | false =>
      obtain ⟨hdom, hkey⟩ := hcase.resolve_left (by simp [hr])
      exact step_completes ⟨hp, hr, hdom⟩ hkey

/-- R303: a step that does not complete is refused, for no step faults. -/
theorem step_refused_of_not_completes {s : State} (h : ¬ ∃ t, step s = .next t) : ∃ e, step s = .refused e := by
  cases hs : step s with
  | next t => exact absurd ⟨t, hs⟩ h
  | fault f => exact absurd hs (step_ne_fault s f)
  | refused e => exact ⟨e, rfl⟩

/-- Settles O24: the cases in which a step completes, with the domains and the legal keycodes written out. -/
theorem stepStopsExactlyInTheListedCases : Obligations.StepStopsExactlyInTheListedCases := by
  refine fun s => ⟨?_, step_refused_of_not_completes⟩
  rw [step_completes_iff, domainOk_iff, keyLegal_iff]
  simp only [not_and, and_assoc]

end Sys2Proof.Machine
end

section
/-! The reset (spec/70_reset_and_hazards.md R340, R343). -/

namespace Sys2Proof.Machine

/-- R7: the reset threshold fits the 8 bits of `CS.thr`. -/
theorem thrReset_le_of_wf {p : Params} (hp : paramsWf p = true) : p.thrReset ≤ 255 := by
  obtain ⟨hb, _⟩ := (paramsWf_iff p).mp hp
  obtain ⟨_, _, _, _, _, hthr⟩ := (boundsWf_iff p).mp hb
  exact hthr

/-- R340: the model's reset registers, row by row of the table; only the threshold needs a bound. -/
theorem resetValues_resetRegs {p : Params} (hp : paramsWf p = true) : ResetValues p (resetRegs p) := by
  have hthr : (BitVec.ofNat 8 p.thrReset).toNat = p.thrReset := by
    rw [BitVec.toNat_ofNat, Nat.mod_eq_of_lt (Nat.lt_succ_of_le (thrReset_le_of_wf hp))]
  exact ⟨rfl, rfl, rfl, hthr, rfl, rfl, rfl, rfl, rfl, List.length_replicate, rfl, rfl, rfl, rfl, rfl,
    idleRows_getLsbD p, rfl, rfl, rfl, rfl, rfl⟩

/-- The set that `State.reset` is built from is accepted (log entry 2). -/
theorem paramsWf_testParams : paramsWf testParams = true := by decide

/-- Settles O21: the table holds of the reset registers, and the test parameters are well formed. -/
theorem resetStateHoldsTheTable : Obligations.ResetStateHoldsTheTable :=
  ⟨fun _ hp => resetValues_resetRegs hp, rfl, paramsWf_testParams⟩

/-- Settles O57: the invariant holds of the reset registers of any well-formed set, the test parameters' among
them. -/
theorem resetHasTheInvariant : Obligations.ResetHasTheInvariant := by
  have hwith : ∀ p : Params, paramsWf p = true → BlockInv (State.resetWith p) :=
    fun _ hp => blockInv_of_reset hp rfl
  exact ⟨hwith, hwith testParams paramsWf_testParams⟩

/-- Settles O20: a reset step is taken from any registers and loads the reset registers. -/
theorem resetOverridesEverything : Obligations.ResetOverridesEverything :=
  fun s hp hr => ⟨resetCycle s, step_of_reset hp hr, resetValues_resetRegs hp, rfl⟩

/-! ## Reset held over a run -/

/-- The environment has scripted the inputs of the next `n` cycles, with a reset in each of them. -/
def ResetFor (s : State) (n : Nat) : Prop :=
  n ≤ s.env.length ∧ ∀ i ∈ s.env.take n, i.rst = true

/-- A held reset is asserted in this cycle, and held one cycle less after its step. -/
theorem resetFor_succ {s : State} {n : Nat} (h : ResetFor s (n + 1)) :
    s.input.rst = true ∧ ResetFor (resetCycle s) n := by
  obtain ⟨hlen, hrst⟩ := h
  cases henv : s.env with
  | nil => simp [henv] at hlen
  | cons i rest =>
    rw [henv] at hlen hrst
    obtain ⟨hi, hrest⟩ := List.forall_mem_cons.mp hrst
    have hinput : s.input = i := by rw [State.input, henv]
    have htail : (resetCycle s).env = rest := by rw [resetCycle_env, henv, List.tail_cons]
    exact ⟨hinput ▸ hi, htail ▸ Nat.le_of_succ_le_succ hlen, htail ▸ hrest⟩

/-- R343: a run under reset ends in the reset registers, whatever registers it begins with. -/
theorem run_of_resetFor {n : Nat} {s : State} (hp : paramsWf s.params = true) (h : ResetFor s (n + 1)) :
    ∃ t, run (n + 1) s = .next t ∧ t.regs = resetRegs s.params := by
  induction n generalizing s with
  | zero =>
    obtain ⟨hr, _⟩ := resetFor_succ h
    exact ⟨resetCycle s, run_succ (step_of_reset hp hr), rfl⟩
  | succ n ih =>
    obtain ⟨hr, hheld⟩ := resetFor_succ h
    obtain ⟨t, ht, hregs⟩ := ih (s := resetCycle s) hp hheld
    exact ⟨t, (run_succ (step_of_reset hp hr)).trans ht, hregs⟩

/-- Settles O22: a run of at least one cycle under reset ends in the reset registers, which hold the table. -/
theorem resetHeldStaysReset : Obligations.ResetHeldStaysReset := by
  intro s n hp hn hlen hrst
  obtain ⟨k, rfl⟩ := Nat.exists_eq_add_of_le' hn
  obtain ⟨t, ht, hregs⟩ := run_of_resetFor hp ⟨hlen, hrst⟩
  exact ⟨t, ht, hregs ▸ resetValues_resetRegs hp⟩

end Sys2Proof.Machine
end
